-- ==== Sys2Proof/Word.lean ====
section
/-! DEFINITION. The plain types of the model: command-port words, bit vectors, samples. -/

namespace Sys2Proof

/-- A 32-bit word of the command port (R10). -/
abbrev Word := BitVec 32

/-- A bit vector (R9): index 0 is the first bit in time. -/
abbrev Bits := List Bool

/-- A sample (R8), an exact integer; `Params.isSample` says which integers are samples. -/
abbrev Sample := Int

end Sys2Proof
end

