-- ==== Sys2Proof/Config.lean ====
section
/-! DEFINITION. The static parameters of an instance (R4) and the one free value of the model. -/

namespace Sys2Proof

/-- The static parameters of an instance, R4 of 00_scope.md. `CRC_BITS` is fixed by the polynomial and is the
constant `crcBits`. The constraints of R4 are `Params.valid`. -/
structure Params where
  /-- `SW`, width of a sample. -/
  sw : Nat
  /-- `DST_BITS`. -/
  dstBits : Nat
  /-- `SRC_BITS`. -/
  srcBits : Nat
  /-- `SEQ_BITS`. -/
  seqBits : Nat
  /-- `ACK_BITS`. -/
  ackBits : Nat
  /-- `FLAG_BITS`. -/
  flagBits : Nat
  /-- `N_MAX`, largest carrier count. -/
  nMax : Nat
  /-- `S_MAX`, largest symbol length. -/
  sMax : Nat
  /-- `P_MAX`, largest preamble length. -/
  pMax : Nat
  /-- `L_MAX`, largest length-field width. -/
  lMax : Nat
  /-- `CS_WIN_MAX`, largest carrier-sense window. -/
  csWinMax : Nat
  /-- `BITBUF_CAP`. -/
  bitbufCap : Nat
  /-- `RXQ_CAP`. -/
  rxqCap : Nat
  /-- `TXQ_CAP`. -/
  txqCap : Nat
  /-- `RXF_CAP`. -/
  rxfCap : Nat
  /-- `CNT_BITS`. -/
  cntBits : Nat
deriving DecidableEq, Repr

/-- The default instance: the default column of R4. -/
def Params.default : Params where
  sw := 16
  dstBits := 4
  srcBits := 4
  seqBits := 8
  ackBits := 8
  flagBits := 8
  nMax := 16
  sMax := 4096
  pMax := 4096
  lMax := 16
  csWinMax := 256
  bitbufCap := 65535
  rxqCap := 16384
  txqCap := 1048576
  rxfCap := 8
  cntBits := 32

/-- The value of a sample that is not there: a table entry never written, a place past the end of the delay line.
The spec makes every such read impossible (R34, R33 (W8) and (W11)), so no run from reset meets it. It is a free value:
nothing can be proved of it. Log 8, DESIGN CHOICE, safe. -/
opaque Config.absentSample : Nat → Nat → Sample

end Sys2Proof
end

