-- ==== Sys2Proof/Machine/Derived.lean ====
section
/-! DEFINITION. The constants derived from the static parameters (R5, R31, R35), their constraints (R4), the register
widths (R30, R31, R35, R36) and the beat counts of commands (R101, R113). -/

namespace Sys2Proof

/-- `CRC_BITS`, the residual length (R4, R200). -/
def crcBits : Nat := 8

/-- `ceil(a / b)`; 0 where `b` is 0. -/
def ceilDiv (a b : Nat) : Nat := (a + b - 1) / b

/-- `clog2(n)`, the least `k` with `2^k ≥ n` (R31). -/
def clog2 (n : Nat) : Nat := if n ≤ 1 then 0 else Nat.log2 (n - 1) + 1

/-- `nw(n) = ceil(n/32)`, the words that carry `n` bits (R102). -/
def nw (n : Nat) : Nat := ceilDiv n 32

/-- `HDR_BITS` (R5). -/
def Params.hdrBits (p : Params) : Nat := p.dstBits + p.srcBits + p.seqBits + p.ackBits + p.flagBits

/-- `HC_BITS`, the header with its residual (R5). -/
def Params.hcBits (p : Params) : Nat := p.hdrBits + crcBits

/-- `OVH`, the bits after the length field that are not payload (R5). -/
def Params.ovh (p : Params) : Nat := p.hdrBits + 2 * crcBits

/-- `SMAX`, the largest sample (R5). -/
def Params.smax (p : Params) : Int := 2 ^ (p.sw - 1) - 1

/-- `SMIN`, the smallest sample (R5). -/
def Params.smin (p : Params) : Int := -(2 ^ (p.sw - 1))

/-- Whether an integer is a sample (R8). -/
def Params.isSample (p : Params) (v : Int) : Bool := decide (p.smin ≤ v) && decide (v ≤ p.smax)

/-- `THW`, the width of the thresholds and of the sliding sum (R31). -/
def Params.thw (p : Params) : Nat := 4 * (p.sw - 1) + clog2 (p.csWinMax + 1)

/-- `ENW`, the width of an energy register (R35). -/
def Params.enw (p : Params) : Nat := 2 * (p.sw - 1) + clog2 (max p.pMax p.sMax + 1)

/-- The constraint column of R4. -/
def Params.valid (p : Params) : Bool :=
  decide (2 ≤ p.sw ∧ p.sw ≤ 32) && decide (1 ≤ p.dstBits) && decide (1 ≤ p.srcBits) && decide (1 ≤ p.seqBits)
    && decide (p.ackBits = p.seqBits) && decide (3 ≤ p.flagBits) && decide (1 ≤ p.nMax ∧ p.nMax ≤ 95)
    && decide (1 ≤ p.sMax ∧ p.sMax ≤ 65536) && decide (1 ≤ p.pMax ∧ p.pMax ≤ 65536) && decide (p.lMax ≤ 16)
    && decide (1 ≤ p.csWinMax) && decide (p.bitbufCap ≤ 65535) && decide (2 ≤ p.rxqCap) && decide (1 ≤ p.txqCap)
    && decide (1 ≤ p.rxfCap) && decide (1 ≤ p.cntBits ∧ p.cntBits ≤ 32)

/-- The width of the register at an index; `none` where the index is unmapped (R30, R31, R35, R36). -/
def Params.regWidth (p : Params) (idx : Nat) : Option Nat :=
  if idx ≤ 0x0A then some 32
  else if idx = 0x0B ∨ idx = 0x0C then some p.thw
  else if idx = 0x20 ∨ idx = 0x22 ∨ idx = 0x23 ∨ idx = 0x24 then some 32
  else if idx = 0x21 ∨ idx = 0x25 then some p.cntBits
  else if idx = 0x26 then some p.thw
  else if 0x40 ≤ idx ∧ idx ≤ 0x40 + 2 * p.nMax then some p.enw
  else none

/-- The input words of `CFG_WR` (R113): those of the register's value beat, one word where the index is unmapped. -/
def Params.cfgWrWords (p : Params) (idx : BitVec 8) : Nat := ((p.regWidth idx.toNat).map nw).getD 1

/-- Whether a table place is mapped (R34). -/
def Params.tblMapped (p : Params) (sel addr : Nat) : Bool :=
  decide (sel ≤ 2 * p.nMax) && decide (addr < if sel = 0 then p.pMax else p.sMax)

end Sys2Proof
end

