-- ==== Sys2Proof/Machine/Bits.lean ====
section
/-! DEFINITION. Bit vectors and machine words: the notation of R9 and R10, and the fields of a command word (R100). -/

namespace Sys2Proof

/-- `uint(b)`, most significant bit first; 0 for the empty vector (R9). -/
def uint (b : Bits) : Nat := b.foldl (fun acc x => 2 * acc + x.toNat) 0

/-- `ubits_k(v)`: bit `i` is `floor(v / 2^(k-1-i)) mod 2` (R9). -/
def ubits (k v : Nat) : Bits := (List.range k).map fun i => decide (v / 2 ^ (k - 1 - i) % 2 = 1)

/-- The 32 bits of a word, most significant first (R10). -/
def wordBits (w : Word) : Bits := ubits 32 w.toNat

/-- One packed word: the first bit at bit 31, missing bits 0 (R10). -/
def packWord (b : Bits) : Word := BitVec.ofNat 32 (uint (b.take 32 ++ List.replicate (32 - b.length) false))

/-- `pack(b)` (R10): word `k` holds bits `32k` to `32k+31`. -/
def pack (b : Bits) : List Word := (List.range (nw b.length)).map fun k => packWord (b.drop (32 * k))

/-- The bits of a list of words, in order. -/
def unpack (ws : List Word) : Bits := ws.flatMap wordBits

/-- `sext_k` of a pattern: two's complement of its low `k` bits (R10). -/
def sext (k v : Nat) : Int :=
  if 2 * (v % 2 ^ k) < 2 ^ k then (v % 2 ^ k : Nat) else (v % 2 ^ k : Nat) - (2 ^ k : Nat)

/-- `OPC = CW[31:24]` (R100). -/
def opcOf (cw : Word) : BitVec 8 := BitVec.ofNat 8 (cw.toNat / 2 ^ 24)

/-- `A = CW[23:16]` (R100). -/
def aOf (cw : Word) : BitVec 8 := BitVec.ofNat 8 (cw.toNat / 2 ^ 16)

/-- `B = CW[15:0]` (R100). -/
def bOf (cw : Word) : BitVec 16 := BitVec.ofNat 16 cw.toNat

/-- The command word with the given fields (R100). -/
def commandWord (opc : Nat) (a : BitVec 8) (b : BitVec 16) : Word :=
  BitVec.ofNat 32 (opc * 2 ^ 24 + a.toNat * 2 ^ 16 + b.toNat)

end Sys2Proof
end

