-- ==== Sys2Proof/Syntax.lean ====
section
/-! DEFINITION. The operations, one constructor per row of spec/opcode_table.json, and what arrives at the ports. -/

namespace Sys2Proof

/-- The two forms of `COLLECT` (R110): selector 101 inside `GET_LENGTH`, 110 inside `GET_PAYLOAD`. -/
inductive CollectPhase where
  | getLength
  | getPayload
deriving DecidableEq, Repr

/-- The operations of the three agents (R13). An operand that arrives as beats is kept as the words of its beat group,
because their format is judged by the operation (R130 step (3)). -/
inductive Instr where
  /-- `NOP`, R131. -/
  | nop
  /-- `SRESET`, R132. -/
  | sreset
  /-- `ENABLE`, R134. -/
  | enable
  /-- `CFG_WR idx, value`, R135; `value` the words of the value beat, most significant first. -/
  | cfgWr (idx : BitVec 8) (value : List Word)
  /-- `CFG_RD idx`, R136. -/
  | cfgRd (idx : BitVec 8)
  /-- `TBL_WR sel, addr, sample`, R137; `sample` the sample beat. -/
  | tblWr (sel : BitVec 8) (addr : BitVec 16) (sample : Word)
  /-- `TBL_RD sel, addr`, R138. -/
  | tblRd (sel : BitVec 8) (addr : BitVec 16)
  /-- `CRC_APPEND bits`, R204; `n` the bit count, `bits` the bit-vector beat group. -/
  | crcAppend (n : BitVec 16) (bits : List Word)
  /-- `CRC_CHECK bits`, R205. -/
  | crcCheck (n : BitVec 16) (bits : List Word)
  /-- `MODULATE dst, src, seq, ack, flags, payload`, R157; `header` the header beat group, `payload` that of `n` bits. -/
  | modulate (n : BitVec 16) (header payload : List Word)
  /-- `TX_ABORT`, R158. -/
  | txAbort
  /-- `RX_POP`, R185. -/
  | rxPop
  /-- `TICK x`, R221; `x` the input sample. -/
  | tick (x : Sample)
  /-- `SCAN`, R172. -/
  | scan
  /-- `COLLECT`, R174. -/
  | collect (phase : CollectPhase)
  /-- `INTERPRET`, R179. -/
  | interpret
  /-- `CHECK`, R181. -/
  | check
deriving DecidableEq, Repr

/-- One thing that arrives at the block: a command-port word from HOST (R100), a sample period of PORT with the
pattern on its input lines (R111; the low `SW` bits count), or a turn of RXSYNC with its selector (R110). Log 2, log 3. -/
inductive PortIn where
  | word (w : Word)
  | sample (x : Word)
  | sync (sel : BitVec 3)
deriving DecidableEq, Repr

end Sys2Proof
end

