-- ==== Sys2Proof/WellFormed.lean ====
section
/-! DEFINITION. Which terms of `Instr` are operations of an instance: those its ports can deliver. -/

namespace Sys2Proof

/-- An operation is well formed for an instance when it has exactly the beats its command word announces (R113), and,
for `TICK`, an input that is a sample (R111). -/
def Instr.wellFormed (p : Params) : Instr → Bool
  | .nop => true
  | .sreset => true
  | .enable => true
  | .cfgWr idx value => decide (value.length = p.cfgWrWords idx)
  | .cfgRd _ => true
  | .tblWr _ _ _ => true
  | .tblRd _ _ => true
  | .crcAppend n bits => decide (bits.length = nw n.toNat)
  | .crcCheck n bits => decide (bits.length = nw n.toNat)
  | .modulate n header payload => decide (header.length = nw p.hdrBits) && decide (payload.length = nw n.toNat)
  | .txAbort => true
  | .rxPop => true
  | .tick x => p.isSample x
  | .scan => true
  | .collect _ => true
  | .interpret => true
  | .check => true

end Sys2Proof
end

