-- ==== Sys2Proof/Decode.lean ====
section
/-! DEFINITION. The decoder: from what waits at the ports to an operation (R100 to R103, R110 to R113), total, rejecting
by name; then the encoder, from the same tables. -/

namespace Sys2Proof

/-- Why no operation is read. -/
inductive DecodeReject where
  /-- Nothing waits at any port. -/
  | nothingWaiting
  /-- `OPC` is not in the opcode map (R112): `F_ILLEGAL_CMD`. -/
  | unlistedOpcode
  /-- A must-be-zero field is not zero (R103): `F_ILLEGAL_CMD`. -/
  | nonZeroMbz
  /-- Input words of the command are still to come (R279): the command is pending. -/
  | incomplete
  /-- A selector that selects no step (R110). -/
  | noStepSelected
deriving DecidableEq, Repr

/-- The next `k` items, when they are all command-port words, and what follows them. -/
def takeWords : Nat → List PortIn → Option (List Word × List PortIn)
  | 0, inp => some ([], inp)
  | k + 1, .word w :: inp => (takeWords k inp).map fun r => (w :: r.1, r.2)
  | _ + 1, _ => none

/-- Reads the `k` operand words of a command and builds the operation from them. -/
def withWords (k : Nat) (inp : List PortIn) (build : List Word → Instr) : Except DecodeReject (Instr × List PortIn) :=
  match takeWords k inp with
  | some (ws, rest) => .ok (build ws, rest)
  | none => .error .incomplete

/-- The operation if its must-be-zero fields are zero, else `nonZeroMbz` (R103). -/
def mbz (zero : Bool) (r : Except DecodeReject (Instr × List PortIn)) : Except DecodeReject (Instr × List PortIn) :=
  if zero then r else .error .nonZeroMbz

/-- A host command with command word `cw`, `inp` being what follows it: the opcode map of R102. -/
def decodeCommand (p : Params) (cw : Word) (inp : List PortIn) : Except DecodeReject (Instr × List PortIn) :=
  let a := aOf cw
  let b := bOf cw
  match (opcOf cw).toNat with
  | 0x00 => mbz (a == 0 && b == 0) (.ok (.nop, inp))
  | 0x01 => mbz (a == 0 && b == 0) (.ok (.sreset, inp))
  | 0x02 => mbz (a == 0 && b == 0) (.ok (.enable, inp))
  | 0x10 => mbz (b == 0) (withWords (p.cfgWrWords a) inp fun ws => .cfgWr a ws)
  | 0x11 => mbz (b == 0) (.ok (.cfgRd a, inp))
  | 0x12 => withWords 1 inp fun ws => .tblWr a b (ws.headD 0)
  | 0x13 => .ok (.tblRd a b, inp)
  | 0x20 => mbz (a == 0) (withWords (nw b.toNat) inp fun ws => .crcAppend b ws)
  | 0x21 => mbz (a == 0) (withWords (nw b.toNat) inp fun ws => .crcCheck b ws)
  | 0x30 => mbz (a == 0) (withWords (nw p.hdrBits + nw b.toNat) inp fun ws =>
      .modulate b (ws.take (nw p.hdrBits)) (ws.drop (nw p.hdrBits)))
  | 0x31 => mbz (a == 0 && b == 0) (.ok (.txAbort, inp))
  | 0x40 => mbz (a == 0 && b == 0) (.ok (.rxPop, inp))
  | _ => .error .unlistedOpcode

/-- The step of RXSYNC that a selector selects (R110). -/
def decodeSelector (sel : BitVec 3) : Except DecodeReject Instr :=
  match sel.toNat with
  | 0b000 => .ok .scan
  | 0b101 => .ok (.collect .getLength)
  | 0b110 => .ok (.collect .getPayload)
  | 0b010 => .ok .interpret
  | 0b011 => .ok .check
  | _ => .error .noStepSelected

/-- The operation at the head of what waits at the ports, and what is left after it. -/
def decode (p : Params) : List PortIn → Except DecodeReject (Instr × List PortIn)
  | [] => .error .nothingWaiting
  | .word cw :: inp => decodeCommand p cw inp
  | .sample x :: inp => .ok (.tick (sext p.sw x.toNat), inp)
  | .sync sel :: inp => (decodeSelector sel).map fun i => (i, inp)

/-- What is found at the ports. -/
inductive Fetched where
  /-- No operation can start: nothing waits, or only the first words of a command (R279). -/
  | idle
  /-- The next operation, and what waits after it. -/
  | run (i : Instr) (rest : List PortIn)
  /-- An illegal command word, consumed alone (R103, R112). -/
  | illegal (rest : List PortIn)
  /-- A turn of RXSYNC that selects no step (R110). -/
  | noStep (rest : List PortIn)
deriving DecidableEq, Repr

/-- Whether an item is a command-port word. -/
def PortIn.isWord : PortIn → Bool
  | .word _ => true
  | .sample _ => false
  | .sync _ => false

/-- The next operation of the run. A command whose words have not all arrived stays pending and the other agents go
on meanwhile (R279). -/
def fetch (p : Params) (inp : List PortIn) : Fetched :=
  match decode p inp with
  | .ok (i, rest) => .run i rest
  | .error .nothingWaiting => .idle
  | .error .unlistedOpcode => .illegal (inp.drop 1)
  | .error .nonZeroMbz => .illegal (inp.drop 1)
  | .error .noStepSelected => .noStep (inp.drop 1)
  | .error .incomplete =>
    match inp.dropWhile PortIn.isWord with
    | [] => .idle
    | e :: rest =>
      match decode p [e] with
      | .ok (i, _) => .run i (inp.takeWhile PortIn.isWord ++ rest)
      | .error _ => .noStep (inp.takeWhile PortIn.isWord ++ rest)

/-- The number of input words a command word announces (R113); 0 for one that is not a command. -/
def commandWords (p : Params) (cw : Word) : Nat :=
  match (opcOf cw).toNat with
  | 0x10 => p.cfgWrWords (aOf cw)
  | 0x12 => 1
  | 0x20 => nw (bOf cw).toNat
  | 0x21 => nw (bOf cw).toNat
  | 0x30 => nw p.hdrBits + nw (bOf cw).toNat
  | _ => 0

/-- The selector of a step (R110). -/
def CollectPhase.selector : CollectPhase → BitVec 3
  | .getLength => 0b101
  | .getPayload => 0b110

/-- A command word and its operand words. -/
def commandItems (opc : Nat) (a : BitVec 8) (b : BitVec 16) (ws : List Word) : List PortIn :=
  .word (commandWord opc a b) :: ws.map .word

/-- The encoder: what is offered at the ports for an operation (R102, R110, R111). -/
def encode : Instr → List PortIn
  | .nop => commandItems 0x00 0 0 []
  | .sreset => commandItems 0x01 0 0 []
  | .enable => commandItems 0x02 0 0 []
  | .cfgWr idx value => commandItems 0x10 idx 0 value
  | .cfgRd idx => commandItems 0x11 idx 0 []
  | .tblWr sel addr sample => commandItems 0x12 sel addr [sample]
  | .tblRd sel addr => commandItems 0x13 sel addr []
  | .crcAppend n bits => commandItems 0x20 0 n bits
  | .crcCheck n bits => commandItems 0x21 0 n bits
  | .modulate n header payload => commandItems 0x30 0 n (header ++ payload)
  | .txAbort => commandItems 0x31 0 0 []
  | .rxPop => commandItems 0x40 0 0 []
  | .tick x => [.sample (BitVec.ofInt 32 x)]
  | .scan => [.sync 0b000]
  | .collect phase => [.sync phase.selector]
  | .interpret => [.sync 0b010]
  | .check => [.sync 0b011]

/-- A row of spec/opcode_table.json as it arrives: up to 8 bits a selector of RXSYNC, up to 16 bits an input sample of
PORT, otherwise a command word (bits 31..0 of `w`) and the operand words it announces, the k-th of them bits
32k+63..32k+32 of `w`, zero above `nbits`. Log 20. -/
def tableItems (p : Params) (nbits w : Nat) : List PortIn :=
  if nbits ≤ 8 then [.sync (BitVec.ofNat 3 w)]
  else if nbits ≤ 16 then [.sample (BitVec.ofNat 32 w)]
  else
    .word (BitVec.ofNat 32 w) ::
      (List.range (commandWords p (BitVec.ofNat 32 w))).map fun k => .word (BitVec.ofNat 32 (w / 2 ^ (32 * (k + 1))))

/-- What the decoder reads from a row of spec/opcode_table.json, for the default instance. -/
def decodeTableWord (nbits w : Nat) : Option Instr :=
  match decode Params.default (tableItems Params.default nbits w) with
  | .ok (i, []) => some i
  | .ok (_, _ :: _) => none
  | .error _ => none

end Sys2Proof
end

