-- ==== Sys2Proof/Machine/State.lean ====
section
/-! DEFINITION. Everything the spec gives the block to hold (10_state.md), as plain data, and its value after reset
(R48, R260). -/

namespace Sys2Proof.Machine

/-- The four synchroniser states (R42, R170). -/
inductive RxState where
  | waitHeader
  | getLength
  | getPayload
  | checkPayload
deriving DecidableEq, Repr

/-- A received frame record (R43). -/
structure Frame where
  dst : Nat
  src : Nat
  seq : Nat
  ack : Nat
  flags : Nat
  /-- `bad_data`: the payload failed its check. -/
  badData : Bool
  /-- `route` (R183): false the direct receive path, true the erasure-coding decoder path. -/
  route : Bool
  payload : Bits
deriving DecidableEq, Repr

/-- The thirteen configuration registers (R31), unsigned integers of the widths of `Params.regWidth`. -/
structure CfgRegs where
  /-- 0x00 `N_CAR`, `N`. -/
  nCar : Nat
  /-- 0x01 `SYM_LEN`, `S`. -/
  symLen : Nat
  /-- 0x02 `CP_LEN`, `CP`. -/
  cpLen : Nat
  /-- 0x03 `PRE_LEN`, `P`. -/
  preLen : Nat
  /-- 0x04 `LEN_BITS`, `L`. -/
  lenBits : Nat
  /-- 0x05 `LEN_MIN`. -/
  lenMin : Nat
  /-- 0x06 `LEN_MAX`. -/
  lenMax : Nat
  /-- 0x07 `SYNC_KDOT`, `K_DOT`. -/
  syncKdot : Nat
  /-- 0x08 `SYNC_KEN`, `K_EN`. -/
  syncKen : Nat
  /-- 0x09 `CS_WIN`. -/
  csWin : Nat
  /-- 0x0A `CS_POW`. -/
  csPow : Nat
  /-- 0x0B `TH_BUSY`. -/
  thBusy : Nat
  /-- 0x0C `TH_COLL`. -/
  thColl : Nat
deriving DecidableEq, Repr

/-- The reset column of R31. -/
def CfgRegs.reset : CfgRegs where
  nCar := 0
  symLen := 0
  cpLen := 0
  preLen := 0
  lenBits := 0
  lenMin := 0
  lenMax := 0
  syncKdot := 2
  syncKen := 1
  csWin := 0
  csPow := 2
  thBusy := 0
  thColl := 0

/-- The waveform table (R34): the entries written since reset as (key, sample) pairs, keys strictly rising
(`Memory.wf`); an entry that is not listed is `none`. Log 16. -/
abbrev Memory := List (Nat × Sample)

/-- What lies outside the block at its ports: the model's own fields. Log 2, log 4. -/
structure Ports where
  /-- Offered and not yet consumed, in the order of the run. -/
  inp : List PortIn
  /-- Every output beat of the command port so far, oldest first. -/
  cmdOut : List Word
  /-- Every output sample a `TICK` has returned so far, oldest first. -/
  smpOut : List Sample
deriving DecidableEq, Repr

/-- Nothing offered, nothing answered. -/
def Ports.empty : Ports where
  inp := []
  cmdOut := []
  smpOut := []

/-- The state of one instance of the block with its ports. -/
structure State where
  /-- The static parameters of the instance (R4); no operation changes them. Log 1. -/
  prm : Params
  /-- `EN` (R22). -/
  en : Bool
  /-- `FAULT` (R22). -/
  fault : Bool
  /-- `busy` (R22, R212). -/
  busy : Bool
  /-- `collision` (R22, R212). -/
  collision : Bool
  /-- `FAULT_CODE` (R23). -/
  faultCode : BitVec 8
  /-- The configuration registers (R31). -/
  cfg : CfgRegs
  /-- The waveform table `TBL` (R34). -/
  tbl : Memory
  /-- The energy registers `E[0]` to `E[2·N_MAX]` (R35). -/
  energy : List Nat
  /-- The transmit sample queue (R40), head first. -/
  txq : List Sample
  /-- `rx_base`, the stream index of the oldest sample held (R41). -/
  rxBase : Nat
  /-- The samples held in the receive ring, oldest first (R41). Log 9. -/
  rx : List Sample
  /-- `st` (R42). -/
  st : RxState
  /-- `collecting` (R42). -/
  collecting : Bool
  /-- `cur` (R42). -/
  cur : Nat
  /-- `saved` (R42). -/
  saved : Nat
  /-- `cand_valid` (R42). -/
  candValid : Bool
  /-- `cand_pos` (R42). -/
  candPos : Nat
  /-- `cand_d2` (R42). -/
  candD2 : Nat
  /-- `cand_e` (R42). -/
  candE : Nat
  /-- `bitbuf` (R42). -/
  bitbuf : Bits
  /-- `need` (R42). -/
  need : Nat
  /-- `len_val` (R42). -/
  lenVal : Nat
  /-- The received-frame queue (R43), head first. -/
  rxf : List Frame
  /-- `cs_hist` (R44), newest first, `CS_WIN_MAX` places. -/
  csHist : List Sample
  /-- `cs_sum` (R44). -/
  csSum : Int
  /-- `BAD_FRAMES` (R45). -/
  badFrames : Nat
  /-- The sample output (R260, R221): what the last `TICK` since reset returned. -/
  sampleOut : Sample
  /-- What is outside the block at its ports. -/
  ports : Ports
deriving DecidableEq, Repr

/-- The reset state of an instance (R48, R260): every element at the value of the reset columns. -/
def State.resetOf (p : Params) : State where
  prm := p
  en := false
  fault := false
  busy := false
  collision := false
  faultCode := 0
  cfg := CfgRegs.reset
  tbl := []
  energy := List.replicate (2 * p.nMax + 1) 0
  txq := []
  rxBase := 0
  rx := []
  st := .waitHeader
  collecting := false
  cur := 0
  saved := 0
  candValid := false
  candPos := 0
  candD2 := 0
  candE := 0
  bitbuf := []
  need := 0
  lenVal := 0
  rxf := []
  csHist := List.replicate p.csWinMax 0
  csSum := 0
  badFrames := 0
  sampleOut := 0
  ports := Ports.empty

/-- The machine right after reset: the default instance (R4), nothing offered at its ports. -/
def State.reset : State := State.resetOf Params.default

/-- The reasons for which a step could stop the machine. There are none: every operation of the spec has a defined
result in every state (R270), and the spec's own faults are states of the block (R231), not stops. Log 19. -/
inductive Fault where
deriving DecidableEq, Repr

/-- The reasons for which an operation could be refused. -/
inductive Refusal where
  /-- An operation without a meaning in this model, by its mnemonic. Raised by nothing: every arm of exec has its
  meaning. It would be safe: a refusal proves nothing about the block. -/
  | notModelled (mnemonic : String)
deriving DecidableEq, Repr

/-- The outcome of one step of this machine. -/
abbrev Outcome := Host.Outcome State Fault Refusal

end Sys2Proof.Machine
end

