-- ==== Sys2Proof/Machine/Flags.lean ====
section
/-! DEFINITION. The flags of the block: the two level comparisons of the carrier-sense detector (R212), the fields of
`STATUS` (R36) and the four level outputs (R240). `EN` and `FAULT` are set by `ENABLE` (R134) and `raiseFault` (R231). -/

namespace Sys2Proof.Machine

/-- `rx_wr`, the number of samples pushed since `ENABLE` (R41): the index after the newest sample held. -/
def State.rxWr (s : State) : Nat := s.rxBase + s.rx.length

/-- A carrier-sense comparison: 1 iff the sum exceeds the threshold, strictly (R212). -/
def above (sum : Int) (threshold : Nat) : Bool := decide ((threshold : Int) < sum)

/-- The two-bit value of `st` (R42). -/
def RxState.code : RxState → Nat
  | .waitHeader => 0
  | .getLength => 1
  | .getPayload => 2
  | .checkPayload => 3

/-- `STATUS.RXF_NE`: a frame waits (R36). -/
def State.rxfNe (s : State) : Bool := !s.rxf.isEmpty

/-- `STATUS.TX_ACTIVE`: a sample waits to be sent (R36). -/
def State.txActive (s : State) : Bool := !s.txq.isEmpty

/-- `STATUS` (R36): bits 7, 15:10 and 31:24 read 0. -/
def State.statusWord (s : State) : Nat :=
  s.en.toNat + 2 * s.fault.toNat + 4 * s.busy.toNat + 8 * s.collision.toNat + 16 * s.rxfNe.toNat
    + 32 * s.txActive.toNat + 64 * s.collecting.toNat + 256 * s.st.code + 65536 * s.faultCode.toNat

/-- The level output `busy` (R240). -/
def State.levelBusy (s : State) : Bool := s.statusWord.testBit 2

/-- The level output `collision` (R240). -/
def State.levelCollision (s : State) : Bool := s.statusWord.testBit 3

/-- The level output `fault` (R240). -/
def State.levelFault (s : State) : Bool := s.statusWord.testBit 1

/-- The level output `frame_avail` (R240). -/
def State.levelFrameAvail (s : State) : Bool := s.statusWord.testBit 4

end Sys2Proof.Machine
end

