-- ==== Sys2Proof/Machine/Ops.lean ====
section
/-! DEFINITION. The named operations over the block's storage: raising a fault and leaving the fault state, the waveform
table, the register space, the queues (20_memory.md), the ports, and the sums the datapath is made of (R11). -/

namespace Sys2Proof.Machine

/-- The faults of R230. -/
inductive FaultKind where
  | illegalCmd
  | badIndex
  | cfgLocked
  | cfgInvalid
  | notEnabled
  | badValue
  | lenLimit
  | lenShort
  | lenWidth
  | txqOvf
  | rxqOvf
deriving DecidableEq, Repr

/-- The code column of R230. -/
def faultCodeOf : FaultKind → BitVec 8
  | .illegalCmd => 0x01
  | .badIndex => 0x02
  | .cfgLocked => 0x03
  | .cfgInvalid => 0x04
  | .notEnabled => 0x05
  | .badValue => 0x06
  | .lenLimit => 0x10
  | .lenShort => 0x11
  | .lenWidth => 0x12
  | .txqOvf => 0x13
  | .rxqOvf => 0x14

/-- `raise F` (R231): the two fault registers, nothing else. -/
def raiseFault (f : FaultKind) (s : State) : State := { s with fault := true, faultCode := faultCodeOf f }

/-- The reset state of the same instance (R132, R260). What is outside the block at its ports is not the block's state
and stays. -/
def softReset (s : State) : State := { State.resetOf s.prm with ports := s.ports }

/-- An illegal command word (R103, R112): `F_ILLEGAL_CMD`, and in the fault state no effect (R232). -/
def illegalCommand (s : State) : State := if s.fault then s else raiseFault .illegalCmd s

/-- A host command that the fault state makes void (R130 step (1), R232): consumed, no effect, no beat. -/
def unlessFaulted (s : State) (t : State) : State := if s.fault then s else t

/-- Output beats on the command port (R100). -/
def putBeats (ws : List Word) (s : State) : State :=
  { s with ports := { s.ports with cmdOut := s.ports.cmdOut ++ ws } }

/-- The output sample of a `TICK` (R221). -/
def putSample (y : Sample) (s : State) : State :=
  { s with sampleOut := y, ports := { s.ports with smpOut := s.ports.smpOut ++ [y] } }

/-- What is left at the ports once an operation has been taken. -/
def setInput (inp : List PortIn) (s : State) : State := { s with ports := { s.ports with inp := inp } }

/-! The waveform table (R34). -/

/-- The key of a table place: `addr` is 16 bits (R70). -/
def tblKey (sel addr : Nat) : Nat := sel * 65536 + addr

/-- The entry listed under a key; `none` where there is none. -/
def Memory.read : Memory → Nat → Option Sample
  | [], _ => none
  | c :: m, k => if k = c.1 then some c.2 else Memory.read m k

/-- The table with one entry written, keys kept strictly rising. -/
def Memory.write : Memory → Nat → Sample → Memory
  | [], k, v => [(k, v)]
  | c :: m, k, v =>
    if k < c.1 then (k, v) :: c :: m else if k = c.1 then (k, v) :: m else c :: Memory.write m k v

/-- The canonical form: keys strictly rising. No entry can equal what an unlisted place reads as, which is `none`. -/
abbrev Memory.wf (m : Memory) : Prop := List.Pairwise (fun a b => a.1 < b.1) m

/-- `TBL[sel][addr]` (R11). -/
def State.tblEntry (s : State) (sel addr : Nat) : Option Sample := Memory.read s.tbl (tblKey sel addr)

/-- `TBL[sel][addr]` as the datapath reads it; (W11) of R33 makes `none` impossible there. Log 8. -/
def State.tblSample (s : State) (sel addr : Nat) : Sample :=
  (s.tblEntry sel addr).getD (Config.absentSample sel addr)

/-- The first `n` entries of a row. -/
def State.tblRow (s : State) (sel n : Nat) : List Sample := (List.range n).map (s.tblSample sel)

/-- The row of a basis waveform (R34). -/
def basRow (c : Nat) (b : Bool) : Nat := 1 + 2 * c + b.toNat

/-- `pre[0..P)` (R11). -/
def State.preWave (s : State) : List Sample := s.tblRow 0 s.cfg.preLen

/-- `bas[c][b][0..S)` (R11). -/
def State.basWave (s : State) (c : Nat) (b : Bool) : List Sample := s.tblRow (basRow c b) s.cfg.symLen

/-! Sums (R11, R7). -/

/-- `dot(a, b, n)` of two vectors of `n` samples (R11). -/
def dot (a b : List Sample) : Int := (List.zipWith (· * ·) a b).sum

/-- `energy(a, n)` of a vector of `n` samples (R11). -/
def energyOf (a : List Sample) : Nat := (a.map fun v => v.natAbs * v.natAbs).sum

/-! Derived quantities of the configuration (R5). -/

/-- `SYM = CP + S`. -/
def CfgRegs.sym (c : CfgRegs) : Nat := c.cpLen + c.symLen

/-- `nsym(k) = ceil(k / N)`. -/
def CfgRegs.nsym (c : CfgRegs) (k : Nat) : Nat := ceilDiv k c.nCar

/-- `NSYM_L = nsym(L)`. -/
def CfgRegs.nsymL (c : CfgRegs) : Nat := c.nsym c.lenBits

/-! The register space (R30). -/

/-- A configuration register by index (R31). -/
def CfgRegs.get (c : CfgRegs) (idx : Nat) : Nat :=
  match idx with
  | 0x00 => c.nCar
  | 0x01 => c.symLen
  | 0x02 => c.cpLen
  | 0x03 => c.preLen
  | 0x04 => c.lenBits
  | 0x05 => c.lenMin
  | 0x06 => c.lenMax
  | 0x07 => c.syncKdot
  | 0x08 => c.syncKen
  | 0x09 => c.csWin
  | 0x0A => c.csPow
  | 0x0B => c.thBusy
  | _ => c.thColl

/-- `CFG[idx] <- v` for a configuration register (R31). -/
def CfgRegs.set (c : CfgRegs) (idx v : Nat) : CfgRegs :=
  match idx with
  | 0x00 => { c with nCar := v }
  | 0x01 => { c with symLen := v }
  | 0x02 => { c with cpLen := v }
  | 0x03 => { c with preLen := v }
  | 0x04 => { c with lenBits := v }
  | 0x05 => { c with lenMin := v }
  | 0x06 => { c with lenMax := v }
  | 0x07 => { c with syncKdot := v }
  | 0x08 => { c with syncKen := v }
  | 0x09 => { c with csWin := v }
  | 0x0A => { c with csPow := v }
  | 0x0B => { c with thBusy := v }
  | _ => { c with thColl := v }

/-- The value of the register at an index (R31, R35, R36); 0 where the index is unmapped, which `CFG_RD` asks first
(`Params.regWidth`). -/
def State.regValue (s : State) (idx : Nat) : Nat :=
  if idx ≤ 0x0C then s.cfg.get idx
  else if idx = 0x20 then s.statusWord
  else if idx = 0x21 then s.badFrames
  else if idx = 0x22 then s.txq.length
  else if idx = 0x23 then s.rx.length
  else if idx = 0x24 then s.rxf.length
  else if idx = 0x25 then s.rxWr % 2 ^ s.prm.cntBits
  else if idx = 0x26 then s.csSum.toNat
  else if 0x40 ≤ idx then s.energy.getD (idx - 0x40) 0
  else 0

/-! Queues (R75 to R77) and counters (R45). -/

/-- Whether the receive ring is full: the test of `rx_push` (R75). -/
def State.rxFull (s : State) : Bool := decide (s.rx.length = s.prm.rxqCap)

/-- `rx_push(v)` on a ring that is not full (R75). -/
def rxPush (v : Sample) (s : State) : State := { s with rx := s.rx ++ [v] }

/-- `rx_discard(k)` (R75): the samples below `k` cease to exist. -/
def rxDiscard (k : Nat) (s : State) : State := { s with rxBase := k, rx := s.rx.drop (k - s.rxBase) }

/-- `rx[i], ..., rx[i+n-1]` (R11). -/
def State.rxSlice (s : State) (i n : Nat) : List Sample := (s.rx.drop (i - s.rxBase)).take n

/-- `txq_push(w)` where it fits (R76). -/
def txqPush (w : List Sample) (s : State) : State := { s with txq := s.txq ++ w }

/-- The result of `txq_pop()`: the head, or 0 when the queue is empty (R76). -/
def State.txqHead (s : State) : Sample := s.txq.headD 0

/-- The effect of `txq_pop()` (R76). -/
def txqPop (s : State) : State := { s with txq := s.txq.tail }

/-- `txq_clear()` (R76). -/
def txqClear (s : State) : State := { s with txq := [] }

/-- `rxf_push(f)` (R77). -/
def rxfPush (f : Frame) (s : State) : State := { s with rxf := s.rxf ++ [f] }

/-- The effect of `rxf_pop()`; its result is the head of the queue (R77). -/
def rxfPop (s : State) : State := { s with rxf := s.rxf.tail }

/-- `BAD_FRAMES <- (BAD_FRAMES + 1) mod 2^CNT_BITS` (R45). -/
def countBadFrame (s : State) : State := { s with badFrames := (s.badFrames + 1) % 2 ^ s.prm.cntBits }

end Sys2Proof.Machine
end

