-- ==== Sys2Proof/Machine/Operands.lean ====
section
/-! DEFINITION. The beat formats of the command port (R101, R108): what input words stand for, `none` where they violate
their format (`F_BAD_VALUE`), and the words of every result. -/

namespace Sys2Proof.Machine

/-- The unsigned integer of a value beat, most significant word first (R101, R71 (d)). -/
def beatValue (ws : List Word) : Nat := ws.foldl (fun acc w => acc * 2 ^ 32 + w.toNat) 0

/-- An input value beat of a register of width `width` (R101). -/
def valueIn (width : Nat) (ws : List Word) : Option Nat :=
  if ws.length = nw width ∧ beatValue ws < 2 ^ width then some (beatValue ws) else none

/-- The output value beat of a register of width `width` (R101). -/
def valueOut (width v : Nat) : List Word :=
  (List.range (nw width)).map fun k => BitVec.ofNat 32 (v / 2 ^ (32 * (nw width - 1 - k)))

/-- An input sample beat (R101): `sext_32(w)`, in `[SMIN, SMAX]`. -/
def sampleIn (p : Params) (w : Word) : Option Sample :=
  if p.isSample (sext 32 w.toNat) then some (sext 32 w.toNat) else none

/-- An output sample beat (R71 (e)): the 32-bit sign extension. -/
def sampleBeat (v : Sample) : Word := BitVec.ofInt 32 v

/-- A flag beat (R101). -/
def flagBeat (b : Bool) : Word := if b then 1 else 0

/-- An input bit-vector beat group of `n` bits (R101): the unused low bits of the last word must be 0. -/
def bitsIn (n : Nat) (ws : List Word) : Option Bits :=
  if ws.length = nw n ∧ ((unpack ws).drop n).all (! ·) then some ((unpack ws).take n) else none

/-- The `HDR_BITS`-bit header of five field values (R101, R151). -/
def headerBits (p : Params) (dst src seq ack flags : Nat) : Bits :=
  ubits p.dstBits dst ++ ubits p.srcBits src ++ ubits p.seqBits seq ++ ubits p.ackBits ack ++ ubits p.flagBits flags

/-- `hdr(f)` of a frame record (R185). -/
def Frame.header (p : Params) (f : Frame) : Bits := headerBits p f.dst f.src f.seq f.ack f.flags

/-- The status word of `RX_POP` for a frame (R108). -/
def frameStatus (f : Frame) : Word :=
  BitVec.ofNat 32 (2 ^ 31 + f.badData.toNat * 2 ^ 30 + f.route.toNat * 2 ^ 29 + f.payload.length)

/-- The output beats of `RX_POP` (R108, R185). -/
def popBeats (p : Params) (f : Option Frame) : List Word :=
  match f with
  | none => [0]
  | some f => frameStatus f :: (pack (f.header p) ++ pack f.payload)

end Sys2Proof.Machine
end

