-- ==== Sys2Proof/Machine/ConfigOps.lean ====
section
/-! DEFINITION. The configuration and control commands (40_config_ops.md). -/

namespace Sys2Proof.Machine

/-- `NOP` (R131). -/
def execNop (s : State) : Outcome := .next s

/-- `SRESET` (R132). -/
def execSreset (s : State) : Outcome := .next (softReset s)

/-- The largest magnitude a carrier contributes to sample `i` of a symbol, for (W13). -/
def State.carrierPeak (s : State) (c i : Nat) : Nat :=
  max (s.tblSample (basRow c false) i).natAbs (s.tblSample (basRow c true) i).natAbs

/-- Whether the first `n` entries of a row have been written, for (W11). -/
def State.rowWritten (s : State) (sel n : Nat) : Bool := (List.range n).all fun i => (s.tblEntry sel i).isSome

/-- (W1) to (W10) of R33: the configuration registers alone. -/
def State.wfRegs (s : State) : Bool :=
  decide (1 ≤ s.cfg.nCar ∧ s.cfg.nCar ≤ s.prm.nMax) && decide (1 ≤ s.cfg.symLen ∧ s.cfg.symLen ≤ s.prm.sMax)
    && decide (s.cfg.cpLen ≤ s.cfg.symLen) && decide (1 ≤ s.cfg.preLen ∧ s.cfg.preLen ≤ s.prm.pMax)
    && decide (1 ≤ s.cfg.lenBits ∧ s.cfg.lenBits ≤ s.prm.lMax)
    && decide (s.prm.ovh ≤ s.cfg.lenMin ∧ s.cfg.lenMin ≤ s.cfg.lenMax ∧ s.cfg.lenMax ≤ s.prm.bitbufCap)
    && decide (1 ≤ s.cfg.syncKdot ∧ 1 ≤ s.cfg.syncKen) && decide (1 ≤ s.cfg.csWin ∧ s.cfg.csWin ≤ s.prm.csWinMax)
    && decide (s.cfg.csPow = 2 ∨ s.cfg.csPow = 4) && decide (s.cfg.thBusy ≤ s.cfg.thColl)

/-- (W11) of R33: every entry the datapath will use has been written. -/
def State.wfWritten (s : State) : Bool :=
  s.rowWritten 0 s.cfg.preLen
    && (List.range s.cfg.nCar).all fun c =>
      s.rowWritten (basRow c false) s.cfg.symLen && s.rowWritten (basRow c true) s.cfg.symLen

/-- (W12) of R33: the preamble has energy. -/
def State.wfPreamble (s : State) : Bool := decide (0 < energyOf s.preWave)

/-- (W13) of R33: every synthesised sample fits a sample. -/
def State.wfPeak (s : State) : Bool :=
  (List.range s.cfg.symLen).all fun i =>
    decide ((((List.range s.cfg.nCar).map fun c => s.carrierPeak c i).sum : Nat) ≤ s.prm.smax)

/-- (W14) and (W15) of R33: the queues are large enough for the configured frames. -/
def State.wfQueues (s : State) : Bool :=
  decide (max (2 * s.cfg.preLen) (s.cfg.nsymL * s.cfg.sym) ≤ s.prm.rxqCap)
    && decide (s.cfg.preLen + (s.cfg.nsymL + s.cfg.nsym s.cfg.lenMax) * s.cfg.sym ≤ s.prm.txqCap)

/-- `WF` (R33), the conjuncts in their order. -/
def State.wfConfig (s : State) : Bool :=
  s.wfRegs && s.wfWritten && s.wfPreamble && s.wfPeak && s.wfQueues

/-- The energy registers `ENABLE` computes (R35, R134): the preamble's, then those of the `2N` rows in use; 0 beyond. -/
def State.energies (s : State) : List Nat :=
  (List.range (2 * s.prm.nMax + 1)).map fun sel =>
    if sel = 0 then energyOf s.preWave
    else if sel ≤ 2 * s.cfg.nCar then energyOf (s.tblRow sel s.cfg.symLen)
    else 0

/-- The effect of `ENABLE` once its checks have passed (R134). -/
def enableBlock (s : State) : State := { s with energy := s.energies, en := true }

/-- `ENABLE` (R134). -/
def execEnable (s : State) : Outcome :=
  .next (unlessFaulted s
    (if s.en then raiseFault .cfgLocked s
    else if !s.wfConfig then raiseFault .cfgInvalid s
    else enableBlock s))

/-- Whether the value beat of a `CFG_WR` keeps its format (R135, R101); an unmapped index defines none. -/
def cfgValueOk (p : Params) (idx : Nat) (value : List Word) : Bool :=
  match p.regWidth idx with
  | some width => (valueIn width value).isSome
  | none => true

/-- The effect of `CFG_WR` once its checks have passed (R135). -/
def writeCfg (idx v : Nat) (s : State) : State := { s with cfg := s.cfg.set idx v }

/-- `CFG_WR idx, value` (R135). -/
def execCfgWr (idx : BitVec 8) (value : List Word) (s : State) : Outcome :=
  .next (unlessFaulted s
    (if !cfgValueOk s.prm idx.toNat value then raiseFault .badValue s
    else if 0x0C < idx.toNat then raiseFault .badIndex s
    else if s.en then raiseFault .cfgLocked s
    else writeCfg idx.toNat (beatValue value) s))

/-- `CFG_RD idx` (R136). In the fault state an unmapped index does nothing (R232). -/
def execCfgRd (idx : BitVec 8) (s : State) : Outcome :=
  .next (match s.prm.regWidth idx.toNat with
    | some width => putBeats (valueOut width (s.regValue idx.toNat)) s
    | none => unlessFaulted s (raiseFault .badIndex s))

/-- The effect of `TBL_WR` once its checks have passed (R137). -/
def writeTbl (sel addr : Nat) (v : Sample) (s : State) : State := { s with tbl := Memory.write s.tbl (tblKey sel addr) v }

/-- `TBL_WR sel, addr, sample` (R137). -/
def execTblWr (sel : BitVec 8) (addr : BitVec 16) (sample : Word) (s : State) : Outcome :=
  .next (unlessFaulted s
    (match sampleIn s.prm sample with
    | none => raiseFault .badValue s
    | some v =>
      if !s.prm.tblMapped sel.toNat addr.toNat then raiseFault .badIndex s
      else if s.en then raiseFault .cfgLocked s
      else writeTbl sel.toNat addr.toNat v s))

/-- The output beats of `TBL_RD` (R138): an entry never written reads as (false, 0). -/
def tblBeats (e : Option Sample) : List Word :=
  match e with
  | none => [flagBeat false, sampleBeat 0]
  | some v => [flagBeat true, sampleBeat v]

/-- `TBL_RD sel, addr` (R138). In the fault state an unmapped place does nothing (R232). -/
def execTblRd (sel : BitVec 8) (addr : BitVec 16) (s : State) : Outcome :=
  .next (if s.prm.tblMapped sel.toNat addr.toNat then putBeats (tblBeats (s.tblEntry sel.toNat addr.toNat)) s
    else unlessFaulted s (raiseFault .badIndex s))

end Sys2Proof.Machine
end

