-- ==== Sys2Proof/Machine/Crc8.lean ====
section
/-! DEFINITION. The CRC-8 framer (43_crc8.md). -/

namespace Sys2Proof.Machine

/-- The generator after its leading 1: `G[1..8]` (R200). -/
def genTail : Bits := [true, true, false, true, false, true, false, true]

/-- The generator `G[0..8]` (R200, R201). -/
def generator : Bits := true :: genTail

/-- `w[i+j] <- w[i+j] xor G[j]` over the bits of `w` from `i+1` on: the leading 1 has been eliminated (R202). -/
def xorPrefix : Bits → Bits → Bits
  | a :: as, b :: bs => (a ^^ b) :: xorPrefix as bs
  | as, [] => as
  | [], _ :: _ => []

/-- The division loop of R202: `n` eliminations, each dropping the bit it makes (or finds) zero. -/
def divide : Nat → Bits → Bits
  | 0, w => w
  | _ + 1, [] => []
  | n + 1, b :: w => divide n (if b then xorPrefix w genTail else w)

/-- `crc_residual(b)` (R202). -/
def crcResidual (b : Bits) : Bits := divide b.length (b ++ List.replicate crcBits false)

/-- `crc_append(b)` (R203). -/
def crcAppend (b : Bits) : Bits := b ++ crcResidual b

/-- `crc_check(v)` (R203). -/
def crcCheck (v : Bits) : Bool := crcResidual v == List.replicate crcBits false

/-- `CRC_APPEND bits` (R204). Every `n` of 16 bits is processed, also one above `BITBUF_CAP`: R4 calls that the capacity of
one command's bit vector, and no rule says what exceeding it does. DESIGN CHOICE, log 22. -/
def execCrcAppend (n : BitVec 16) (bits : List Word) (s : State) : Outcome :=
  .next (unlessFaulted s
    (match bitsIn n.toNat bits with
    | none => raiseFault .badValue s
    | some b => putBeats (pack (crcAppend b)) s))

/-- `CRC_CHECK bits` (R205). Every `n` of 16 bits is processed, also one above `BITBUF_CAP`, as in `CRC_APPEND`. DESIGN
CHOICE, log 22. -/
def execCrcCheck (n : BitVec 16) (bits : List Word) (s : State) : Outcome :=
  .next (unlessFaulted s
    (match bitsIn n.toNat bits with
    | none => raiseFault .badValue s
    | some b => putBeats [flagBeat (crcCheck b)] s))

end Sys2Proof.Machine
end

