-- ==== Sys2Proof/Machine/Modulator.lean ====
section
/-! DEFINITION. The multicarrier modulator (41_modulator.md). -/

namespace Sys2Proof.Machine

/-- The body of a frame (R151): header, its residual, payload, its residual. -/
def frameBody (hdr pay : Bits) : Bits := crcAppend hdr ++ crcAppend pay

/-- Sample `i` of a symbol core (R152): the sum over the carriers of the basis waveform each one's bit selects. -/
def State.coreSample (s : State) (β : Bits) (i : Nat) : Sample :=
  ((List.range s.cfg.nCar).map fun c => s.tblSample (basRow c (β.getD c false)) i).sum

/-- `core[0..S)` (R152). -/
def State.core (s : State) (β : Bits) : List Sample := (List.range s.cfg.symLen).map (s.coreSample β)

/-- `symbol(β)` (R152): the last `CP` samples of the core, then the core. -/
def State.symbol (s : State) (β : Bits) : List Sample :=
  (s.core β).drop (s.cfg.symLen - s.cfg.cpLen) ++ s.core β

/-- A bit vector padded with zeros to whole symbols (R154). -/
def State.padded (s : State) (b : Bits) : Bits :=
  b ++ List.replicate (s.cfg.nsym b.length * s.cfg.nCar - b.length) false

/-- `group(b)` (R154): bit `j` rides on carrier `j mod N` of symbol `j div N`. -/
def State.group (s : State) (b : Bits) : List Sample :=
  (List.range (s.cfg.nsym b.length)).flatMap fun m => s.symbol (((s.padded b).drop (m * s.cfg.nCar)).take s.cfg.nCar)

/-- The waveform of a frame (R155). -/
def State.waveform (s : State) (hdr pay : Bits) : List Sample :=
  s.preWave ++ s.group (ubits s.cfg.lenBits (s.prm.ovh + pay.length)) ++ s.group (frameBody hdr pay)

/-- The checks of `MODULATE` on a frame, in their order, then its effect (R157). -/
def modulateFrame (hdr pay : Bits) (s : State) : State :=
  if !s.en then raiseFault .notEnabled s
  else if s.cfg.lenMax < s.prm.ovh + pay.length then raiseFault .lenLimit s
  else if s.prm.ovh + pay.length < s.cfg.lenMin then raiseFault .lenShort s
  else if 2 ^ s.cfg.lenBits ≤ s.prm.ovh + pay.length then raiseFault .lenWidth s
  else if s.prm.txqCap < s.txq.length + (s.waveform hdr pay).length then raiseFault .txqOvf s
  else txqPush (s.waveform hdr pay) s

/-- `MODULATE dst, src, seq, ack, flags, payload` (R157). The header beat group holds the five fields (R101, R151). -/
def execModulate (n : BitVec 16) (header payload : List Word) (s : State) : Outcome :=
  .next (unlessFaulted s
    (match bitsIn s.prm.hdrBits header, bitsIn n.toNat payload with
    | some hdr, some pay => modulateFrame hdr pay s
    | some _, none => raiseFault .badValue s
    | none, _ => raiseFault .badValue s))

/-- `TX_ABORT` (R158). -/
def execTxAbort (s : State) : Outcome := .next (unlessFaulted s (txqClear s))

end Sys2Proof.Machine
end

