-- ==== Sys2Proof/Machine/CarrierSense.lean ====
section
/-! DEFINITION. The carrier-sense and collision detector (44_carrier_sense.md). -/

namespace Sys2Proof.Machine

/-- `pw(v) = v^CS_POW` (R211). -/
def pw (c : CfgRegs) (v : Sample) : Int := v ^ c.csPow

/-- The sample leaving the window: `cs_hist[CS_WIN - 1]` (R212). (W8) puts it inside the delay line. Log 8. -/
def State.csOld (s : State) : Sample :=
  s.csHist.getD (s.cfg.csWin - 1) (Config.absentSample s.csHist.length s.cfg.csWin)

/-- The new value of `cs_sum` (R212). -/
def State.csNext (s : State) (x : Sample) : Int := s.csSum + pw s.cfg x - pw s.cfg s.csOld

/-- The carrier-sense update with input sample `x` (R212). -/
def carrierSense (x : Sample) (s : State) : State :=
  { s with
    csSum := s.csNext x
    csHist := x :: (s.csHist.take (s.cfg.csWin - 1) ++ s.csHist.drop s.cfg.csWin)
    busy := above (s.csNext x) s.cfg.thBusy
    collision := above (s.csNext x) s.cfg.thColl }

end Sys2Proof.Machine
end

