-- ==== Sys2Proof/Machine/FrameSync.lean ====
section
/-! DEFINITION. The frame synchroniser and demodulator (42_frame_sync.md): the four steps of RXSYNC, their closure, and
`RX_POP`. -/

namespace Sys2Proof.Machine

/-! Selection (R110, R170, R190). -/

/-- The selector `{collecting, st[1], st[0]}` (R110). -/
def State.selector (s : State) : BitVec 3 := BitVec.ofNat 3 (4 * s.collecting.toNat + s.st.code)

/-- Whether RXSYNC has this step selected: never while `EN = 0` or `FAULT = 1` (R190, R232). -/
def State.selects (s : State) (sel : BitVec 3) : Bool := s.en && !s.fault && decide (s.selector = sel)

/-- Whether `n` samples from `cur` on are present in the ring: the guards of `SCAN` and `COLLECT` (R172, R174). In every
state a run reaches `rx_base ≤ cur` (R47 (I1)). Log 7. -/
def State.present (s : State) (n : Nat) : Bool := decide (s.rxBase ≤ s.cur) && decide (s.cur + n ≤ s.rxWr)

/-! SCAN (R171, R172). -/

/-- `dot(w)` (R171). -/
def State.windowDot (s : State) (w : Nat) : Int := dot (s.rxSlice w s.cfg.preLen) s.preWave

/-- `d2(w)` (R171). -/
def State.windowD2 (s : State) (w : Nat) : Nat := (s.windowDot w).natAbs ^ 2

/-- `E_rx(w)` (R171). -/
def State.windowEnergy (s : State) (w : Nat) : Nat := energyOf (s.rxSlice w s.cfg.preLen)

/-- `E_pre = E[0]` (R171). -/
def State.ePre (s : State) : Nat := s.energy.getD 0 0

/-- `hit(w)` (R171). -/
def State.hit (s : State) (w : Nat) : Bool :=
  decide (s.cfg.syncKen * s.ePre * s.windowEnergy w < s.cfg.syncKdot * s.windowD2 w)

/-- Whether a window becomes the candidate: a hit, and there is none or it is strictly stronger (R172). -/
def State.replaces (s : State) (w : Nat) : Bool :=
  s.hit w && (!s.candValid || decide (s.candD2 * s.windowEnergy w < s.windowD2 w * s.candE))

/-- The window at `w` taken as the candidate (R172). -/
def takeCandidate (w : Nat) (s : State) : State :=
  { s with candValid := true, candPos := w, candD2 := s.windowD2 w, candE := s.windowEnergy w }

/-- Confirmation (R172): the preamble and everything before it are discarded and `GET_LENGTH` begins. -/
def confirm (s : State) : State :=
  { rxDiscard (s.candPos + s.cfg.preLen) s with
    cur := s.candPos + s.cfg.preLen
    saved := s.candPos + s.cfg.preLen
    candValid := false
    candPos := 0
    candD2 := 0
    candE := 0
    bitbuf := []
    need := s.cfg.lenBits
    collecting := true
    st := .getLength }

/-- The end of a `SCAN` step, once the candidate is settled and `cur` has advanced: confirm, or discard (R172). -/
def settleScan (s : State) : State :=
  if s.candValid && decide (s.cur = s.candPos + s.cfg.preLen + 1) then confirm s
  else rxDiscard (if s.candValid then s.candPos else s.cur) s

/-- The effect of `SCAN` (R172). -/
def scanEffect (s : State) : State :=
  settleScan { (if s.replaces s.cur then takeCandidate s.cur s else s) with cur := s.cur + 1 }

/-- `SCAN` where it is selected and its guard holds (R172). -/
def scanStep (s : State) : Option State :=
  if s.selects 0b000 && s.present s.cfg.preLen then some (scanEffect s) else none

/-! COLLECT (R174, R175). -/

/-- `slice(y, c)` (R175): 1 iff `dot1 > dot0`. -/
def State.slice (s : State) (y : List Sample) (c : Nat) : Bool :=
  decide (dot y (s.basWave c false) < dot y (s.basWave c true))

/-- The bits of one symbol core, in carrier order (R174). -/
def State.sliceAll (s : State) (y : List Sample) : Bits := (List.range s.cfg.nCar).map (s.slice y)

/-- The core of the symbol at `cur`: the prefix is skipped (R174). -/
def State.symbolCore (s : State) : List Sample := s.rxSlice (s.cur + s.cfg.cpLen) s.cfg.symLen

/-- The bits one `COLLECT` appends: those of carriers `0` to `k-1`, `k = min(N, need - |bitbuf|)` (R174). -/
def State.newBits (s : State) : Bits :=
  (s.sliceAll s.symbolCore).take (min s.cfg.nCar (s.need - s.bitbuf.length))

/-- `st <- st + 1` as `COLLECT` uses it (R174). -/
def afterCollect : CollectPhase → RxState
  | .getLength => .getPayload
  | .getPayload => .checkPayload

/-- The sample discard of `COLLECT`: in `GET_PAYLOAD` only (R174). -/
def collectDiscard (phase : CollectPhase) (s : State) : State :=
  match phase with
  | .getLength => s
  | .getPayload => rxDiscard s.cur s

/-- The end of a `COLLECT` step: a full group ends the collection (R174). -/
def settleCollect (phase : CollectPhase) (s : State) : State :=
  if s.bitbuf.length = s.need then { s with collecting := false, st := afterCollect phase } else s

/-- The effect of `COLLECT` (R174). -/
def collectEffect (phase : CollectPhase) (s : State) : State :=
  settleCollect phase
    (collectDiscard phase { s with bitbuf := s.bitbuf ++ s.newBits, cur := s.cur + s.cfg.sym })

/-- `COLLECT` where it is selected and its guard holds (R174). -/
def collectStep (phase : CollectPhase) (s : State) : Option State :=
  if s.selects phase.selector && s.present s.cfg.sym then some (collectEffect phase s) else none

/-! INTERPRET (R179). -/

/-- A length outside the limits: false synchronisation, rewind to the saved position (R179). -/
def rejectLength (s : State) : State :=
  { countBadFrame s with cur := s.saved, st := .waitHeader, candValid := false, bitbuf := [] }

/-- A length within the limits: the body is collected next (R179). -/
def acceptLength (v : Nat) (s : State) : State :=
  rxDiscard s.cur { s with lenVal := v, need := v, bitbuf := [], collecting := true }

/-- The effect of `INTERPRET` (R179). -/
def interpretEffect (s : State) : State :=
  if uint s.bitbuf < s.cfg.lenMin ∨ s.cfg.lenMax < uint s.bitbuf then rejectLength s
  else acceptLength (uint s.bitbuf) s

/-- `INTERPRET` where it is selected (R179); it has no guard. -/
def interpretStep (s : State) : Option State := if s.selects 0b010 then some (interpretEffect s) else none

/-! CHECK (R181 to R183). -/

/-- `b[i:j]` (R9). -/
def bitSlice (b : Bits) (i j : Nat) : Bits := (b.drop i).take (j - i)

/-- The frame record of a body whose header checks (R181 to R183). -/
def frameOf (p : Params) (body : Bits) (len : Nat) : Frame :=
  let src := p.dstBits
  let seq := src + p.srcBits
  let ack := seq + p.seqBits
  let flags := ack + p.ackBits
  let pc := bitSlice body p.hcBits len
  let pay := pc.take (pc.length - crcBits)
  { dst := uint (bitSlice body 0 src)
    src := uint (bitSlice body src seq)
    seq := uint (bitSlice body seq ack)
    ack := uint (bitSlice body ack flags)
    flags := uint (bitSlice body flags p.hdrBits)
    badData := !crcCheck pc
    route := crcCheck pc && pay.headD false
    payload := if crcCheck pc then pay else [] }

/-- What `CHECK` leaves behind: a record in the queue, or a counted bad frame (R181). -/
def judgeFrame (s : State) : State :=
  if crcCheck (bitSlice s.bitbuf 0 s.prm.hcBits) then rxfPush (frameOf s.prm s.bitbuf s.lenVal) s
  else countBadFrame s

/-- The effect of `CHECK` (R181). -/
def checkEffect (s : State) : State :=
  { judgeFrame s with st := .waitHeader, bitbuf := [], candValid := false }

/-- `CHECK` where it is selected and its guard holds: the frame queue has room (R181). -/
def checkStep (s : State) : Option State :=
  if s.selects 0b011 && decide (s.rxf.length < s.prm.rxfCap) then some (checkEffect s) else none

/-! Closure (R190). -/

/-- The step the state selects, where its guard holds (R110, R170). -/
def rxStep (s : State) : Option State :=
  match s.collecting, s.st with
  | false, .waitHeader => scanStep s
  | true, .getLength => collectStep .getLength s
  | true, .getPayload => collectStep .getPayload s
  | false, .getPayload => interpretStep s
  | false, .checkPayload => checkStep s
  | false, .getLength => none
  | true, .waitHeader => none
  | true, .checkPayload => none

/-- Steps while one is enabled, at most as many as the fuel allows. -/
def closureLoop : Nat → State → State
  | 0, s => s
  | n + 1, s =>
    match rxStep s with
    | some t => closureLoop n t
    | none => s

/-- More steps than any closure of a state a run reaches takes: with `n` samples held, at most `n + 1` confirmations
(each discards a sample for good) and at most `2n + 3` steps between two of them. Log 6. -/
def closureFuel (s : State) : Nat := (s.rx.length + 2) * (2 * s.rx.length + 4)

/-- RXSYNC run to closure (R190). -/
def rxClosure (s : State) : State := closureLoop (closureFuel s) s

/-! The operations. -/

/-- A step of RXSYNC on its own: where it is not enabled nothing happens. Log 3. -/
def ifEnabled (s : State) (r : Option State) : State := r.getD s

/-- `SCAN` (R172). -/
def execScan (s : State) : Outcome := .next (ifEnabled s (scanStep s))

/-- `COLLECT` (R174). -/
def execCollect (phase : CollectPhase) (s : State) : Outcome := .next (ifEnabled s (collectStep phase s))

/-- `INTERPRET` (R179). -/
def execInterpret (s : State) : Outcome := .next (ifEnabled s (interpretStep s))

/-- `CHECK` (R181). -/
def execCheck (s : State) : Outcome := .next (ifEnabled s (checkStep s))

/-- `RX_POP` (R185): the oldest frame leaves the queue, its beats are returned, and RXSYNC runs to closure. -/
def execRxPop (s : State) : Outcome :=
  .next (unlessFaulted s (rxClosure (putBeats (popBeats s.prm s.rxf.head?) (rxfPop s))))

end Sys2Proof.Machine
end

