-- ==== Sys2Proof/Machine/SamplePort.lean ====
section
/-! DEFINITION. The sample port (45_sample_port.md). -/

namespace Sys2Proof.Machine

/-- A sample period of an enabled block whose ring has room (R221): push, carrier sense, transmit pop, closure; the
output sample is the one popped. -/
def tickEffect (x : Sample) (s : State) : State :=
  putSample s.txqHead (rxClosure (txqPop (carrierSense x (rxPush x s))))

/-- `TICK x -> y` (R221). -/
def execTick (x : Sample) (s : State) : Outcome :=
  .next
    (if !s.en || s.fault then putSample 0 s
    else if s.rxFull then putSample 0 (raiseFault .rxqOvf s)
    else tickEffect x s)

end Sys2Proof.Machine
end

