-- ==== Sys2Proof/Machine/Dispatch.lean ====
section
/-! DEFINITION. One arm per operation. -/

namespace Sys2Proof.Machine

def exec (i : Instr) (s : State) : Host.Outcome State Fault Refusal :=
  match i with
  | .nop => Sys2Proof.Machine.execNop s
  | .sreset => Sys2Proof.Machine.execSreset s
  | .enable => Sys2Proof.Machine.execEnable s
  | .cfgWr idx value => Sys2Proof.Machine.execCfgWr idx value s
  | .cfgRd idx => Sys2Proof.Machine.execCfgRd idx s
  | .tblWr sel addr sample => Sys2Proof.Machine.execTblWr sel addr sample s
  | .tblRd sel addr => Sys2Proof.Machine.execTblRd sel addr s
  | .crcAppend n bits => Sys2Proof.Machine.execCrcAppend n bits s
  | .crcCheck n bits => Sys2Proof.Machine.execCrcCheck n bits s
  | .modulate n header payload => Sys2Proof.Machine.execModulate n header payload s
  | .txAbort => Sys2Proof.Machine.execTxAbort s
  | .rxPop => Sys2Proof.Machine.execRxPop s
  | .tick x => Sys2Proof.Machine.execTick x s
  | .scan => Sys2Proof.Machine.execScan s
  | .collect phase => Sys2Proof.Machine.execCollect phase s
  | .interpret => Sys2Proof.Machine.execInterpret s
  | .check => Sys2Proof.Machine.execCheck s

end Sys2Proof.Machine
end

