-- ==== Sys2Proof/Machine/Step.lean ====
section
/-! DEFINITION. One step: the next operation that the ports offer (R13, R73). -/

namespace Sys2Proof.Machine

/-- One step of the machine: the next operation is taken from the ports and executed. With no operation to start the
block does nothing (R260, R279). Log 2, log 5. -/
def step (s : State) : Host.Outcome State Fault Refusal :=
  match fetch s.prm s.ports.inp with
  | .idle => .next s
  | .run i rest => exec i (setInput rest s)
  | .illegal rest => .next (illegalCommand (setInput rest s))
  | .noStep rest => .next (setInput rest s)

/-- The state in which the ports offer the given row of the opcode table next. -/
def State.withFetchWord (s : State) (nbits w : Nat) : State :=
  setInput (tableItems s.prm nbits w ++ s.ports.inp) s

end Sys2Proof.Machine
end

