-- ==== Sys2Proof/Safety.lean ====
section
/-! DEFINITION. What the spec promises of every state a run reaches (R47, R213, R8), in the terms the statements use, and
runs of `TICK`s. -/

namespace Sys2Proof.Machine

/-- What the storage keeps whatever the operations do: a legal instance (R4), a table in canonical form whose entries
are samples at mapped places (R34), register values of their widths (R31), a fault code exactly while `FAULT` is set,
and only a listed one (R23, R230), and a frame counter of its width (R45). -/
structure StorageInv (s : State) : Prop where
  params : s.prm.valid = true
  tableForm : Memory.wf s.tbl
  tableEntries : ∀ c ∈ s.tbl, s.prm.isSample c.2 = true ∧
    ∃ sel addr, s.prm.tblMapped sel addr = true ∧ addr < 65536 ∧ c.1 = tblKey sel addr
  registerWidths : ∀ idx w, idx ≤ 0x0C → s.prm.regWidth idx = some w → s.cfg.get idx < 2 ^ w
  faultRecord : if s.fault then ∃ k, s.faultCode = faultCodeOf k else s.faultCode = 0
  counterWidth : s.badFrames < 2 ^ s.prm.cntBits

/-- The elements of R40 to R45 at their reset values, and the energy registers at 0 (R47 (I7), R35). -/
structure DatapathReset (s : State) : Prop where
  flags : s.busy = false ∧ s.collision = false
  energy : s.energy = List.replicate (2 * s.prm.nMax + 1) 0
  queues : s.txq = [] ∧ s.rxf = []
  ring : s.rxBase = 0 ∧ s.rx = []
  sequencing : s.st = .waitHeader ∧ s.collecting = false ∧ s.cur = 0 ∧ s.saved = 0
  candidate : s.candValid = false ∧ s.candPos = 0 ∧ s.candD2 = 0 ∧ s.candE = 0
  bits : s.bitbuf = [] ∧ s.need = 0 ∧ s.lenVal = 0
  carrier : s.csHist = List.replicate s.prm.csWinMax 0 ∧ s.csSum = 0
  counter : s.badFrames = 0

/-- The invariants (I1) to (I8) of R47, and what `ENABLE` establishes (R134). (I2) is asked of an enabled block only:
before `ENABLE` the register `P` may hold 0, and then no count of samples is below it. -/
structure BlockInv (s : State) : Prop where
  disabled : s.en = false → DatapathReset s
  enabled : s.en = true → s.wfConfig = true ∧ s.energy = s.energies
  ring : s.rxBase ≤ s.cur ∧ s.cur ≤ s.rxWr ∧ s.rx.length ≤ s.prm.rxqCap
  waitHeader : s.en = true → s.st = .waitHeader →
    s.collecting = false ∧ s.rxWr < s.cur + s.cfg.preLen ∧
      (if s.candValid then s.rxBase = s.candPos ∧ s.cur ≤ s.candPos + s.cfg.preLen else s.rxBase = s.cur)
  getLength : s.st = .getLength →
    s.collecting = true ∧ s.rxBase = s.saved ∧ s.need = s.cfg.lenBits ∧ s.rxWr < s.cur + s.cfg.sym ∧
      ∃ m, m < s.cfg.nsymL ∧ s.cur = s.saved + m * s.cfg.sym ∧ s.bitbuf.length = m * s.cfg.nCar
  getPayload : s.st = .getPayload →
    s.collecting = true ∧ s.rxBase = s.cur ∧ s.need = s.lenVal ∧ s.cfg.lenMin ≤ s.lenVal ∧ s.lenVal ≤ s.cfg.lenMax ∧
      s.bitbuf.length < s.need ∧ s.rxWr < s.cur + s.cfg.sym
  checkPayload : s.st = .checkPayload →
    s.collecting = false ∧ s.bitbuf.length = s.lenVal ∧ s.rxBase = s.cur ∧ s.rxf.length = s.prm.rxfCap
  candidate : s.candValid = true → s.st = .waitHeader
  capacities : s.txq.length ≤ s.prm.txqCap ∧ s.rxf.length ≤ s.prm.rxfCap

/-- The sum of `pw` over the newest `CS_WIN` samples (R213). -/
def windowPower (s : State) : Int := ((s.csHist.take s.cfg.csWin).map (pw s.cfg)).sum

/-- The carrier-sense state of R44 and R213: the delay line has its length; while disabled it is at its reset values;
while enabled the sum is the closed form and the flags are its comparisons. -/
structure CarrierInv (s : State) : Prop where
  delayLine : s.csHist.length = s.prm.csWinMax
  disabled : s.en = false →
    s.csHist = List.replicate s.prm.csWinMax 0 ∧ s.csSum = 0 ∧ s.busy = false ∧ s.collision = false
  enabled : s.en = true →
    (1 ≤ s.cfg.csWin ∧ s.cfg.csWin ≤ s.prm.csWinMax) ∧ s.csSum = windowPower s ∧
      s.busy = above s.csSum s.cfg.thBusy ∧ s.collision = above s.csSum s.cfg.thColl

/-- Every sample the block holds or puts out is a sample in the sense of R8. -/
structure SampleInv (s : State) : Prop where
  transmit : ∀ v ∈ s.txq, s.prm.isSample v = true
  receive : ∀ v ∈ s.rx, s.prm.isSample v = true
  delayLine : ∀ v ∈ s.csHist, s.prm.isSample v = true
  output : s.prm.isSample s.sampleOut = true

/-- What R47 says of the receiver's positions, of a state between two operations and of every state inside a closure: `P` and
`SYM` are not 0, `cur` lies in the ring, the candidate and the saved position lie in it where they are in use. -/
structure RingPositions (s : State) : Prop where
  lengths : 1 ≤ s.cfg.preLen ∧ 1 ≤ s.cfg.sym
  cursor : s.rxBase ≤ s.cur ∧ s.cur ≤ s.rxWr
  candidate : s.candValid = true → s.st = .waitHeader → s.rxBase ≤ s.candPos ∧ s.candPos ≤ s.cur
  saved : s.st = .getLength ∨ (s.st = .getPayload ∧ s.collecting = false) → s.rxBase ≤ s.saved ∧ s.saved ≤ s.cur

/-- Steps of RXSYNC, any number of them (R190). -/
def SyncSteps : State → State → Prop := Relation.ReflTransGen fun a b => rxStep a = some b

/-- The state after a sequence of `TICK`s with nothing between them: the block's side of `PERIOD` (R118). -/
def afterTicks : List Sample → State → State
  | [], s => s
  | x :: xs, s =>
    match exec (.tick x) s with
    | .next t => afterTicks xs t
    | .fault _ => s
    | .refused _ => s

/-- The state without the transmit side and the ports: what the receiver and the detector are made of (R83, R210). -/
def receiverSide (s : State) : State := { s with txq := [], sampleOut := 0, ports := Ports.empty }

/-- The host commands that R191 says leave the synchroniser alone. -/
def leavesReceiver : Instr → Bool
  | .nop => true
  | .enable => true
  | .cfgWr _ _ => true
  | .cfgRd _ => true
  | .tblWr _ _ _ => true
  | .tblRd _ _ => true
  | .crcAppend _ _ => true
  | .crcCheck _ _ => true
  | .modulate _ _ _ => true
  | .txAbort => true
  | .sreset => false
  | .rxPop => false
  | .tick _ => false
  | .scan => false
  | .collect _ => false
  | .interpret => false
  | .check => false

/-- The "raised by" column of R230. -/
def mayRaise : Instr → List FaultKind
  | .enable => [.cfgLocked, .cfgInvalid]
  | .cfgWr _ _ => [.badValue, .badIndex, .cfgLocked]
  | .cfgRd _ => [.badIndex]
  | .tblWr _ _ _ => [.badValue, .badIndex, .cfgLocked]
  | .tblRd _ _ => [.badIndex]
  | .crcAppend _ _ => [.badValue]
  | .crcCheck _ _ => [.badValue]
  | .modulate _ _ _ => [.badValue, .notEnabled, .lenLimit, .lenShort, .lenWidth, .txqOvf]
  | .tick _ => [.rxqOvf]
  | .nop => []
  | .sreset => []
  | .txAbort => []
  | .rxPop => []
  | .scan => []
  | .collect _ => []
  | .interpret => []
  | .check => []

/-- (H1) of R160: the table decodes every symbol core to the bits it was made of. -/
def Decodable (s : State) : Prop :=
  ∀ β : Bits, β.length = s.cfg.nCar → ∀ c < s.cfg.nCar, s.slice (s.core β) c = β.getD c false

end Sys2Proof.Machine
end

