-- ==== Sys2Proof/Certificates/Slice0/Obligations.lean ====
section
/-! DEFINITION. The statements for the provers. The helpers under Sys2Proof.Claims spell the spec's formulas out, apart
from the definitions of the model. -/

namespace Sys2Proof.Claims

open Sys2Proof.Machine

/-- `Σ_{i<n} f(i)` over the integers (R11). -/
def sumTo (n : Nat) (f : Nat → Int) : Int := ((List.range n).map f).sum

/-- `rx[i]`, the received sample of stream index `i` (R11). -/
def rxAt (s : State) (i : Nat) : Int := s.rx.getD (i - s.rxBase) 0

/-- `bas[c][b][i]` (R11). -/
def bas (s : State) (c : Nat) (b : Bool) (i : Nat) : Int := s.tblSample (1 + 2 * c + b.toNat) i

/-- The state after `raise` with a code of R230: the two fault registers, nothing else (R231). -/
def raised (code : BitVec 8) (s : State) : State := { s with fault := true, faultCode := code }

/-- The state after output beats on the command port. The history of beats is the model's own record (log 4). -/
def answered (ws : List Word) (s : State) : State :=
  { s with ports := { s.ports with cmdOut := s.ports.cmdOut ++ ws } }

/-- The state after a `TICK` has returned an output sample. The history of samples is the model's own record (log 4). -/
def returned (y : Sample) (s : State) : State :=
  { s with sampleOut := y, ports := { s.ports with smpOut := s.ports.smpOut ++ [y] } }

/-- `u` differs from `s` in nothing but the receive ring, the synchroniser, the frame queue and the frame counter. -/
def onlyReceiver (s u : State) : Prop :=
  u = { s with
    rxBase := u.rxBase
    rx := u.rx
    st := u.st
    collecting := u.collecting
    cur := u.cur
    saved := u.saved
    candValid := u.candValid
    candPos := u.candPos
    candD2 := u.candD2
    candE := u.candE
    bitbuf := u.bitbuf
    need := u.need
    lenVal := u.lenVal
    rxf := u.rxf
    badFrames := u.badFrames }

/-- The opcode map of R102: opcode, whether A must be zero, whether B must be zero. -/
def opcodeMap : List (Nat × Bool × Bool) :=
  [(0x00, true, true), (0x01, true, true), (0x02, true, true), (0x10, false, true), (0x11, false, true),
   (0x12, false, false), (0x13, false, false), (0x20, true, false), (0x21, true, false), (0x30, true, false),
   (0x31, true, true), (0x40, true, true)]

/-- A command word that some row of R102 selects with its must-be-zero fields zero. -/
def legalCommand (cw : Word) : Prop :=
  ∃ r ∈ opcodeMap, cw.toNat / 2 ^ 24 = r.1 ∧ (r.2.1 = true → cw.toNat / 2 ^ 16 % 256 = 0) ∧
    (r.2.2 = true → cw.toNat % 65536 = 0)

/-- The register map of R31 and R36: index, width, value. -/
def registerMap (s : State) : List (Nat × Nat × Nat) :=
  [(0x00, 32, s.cfg.nCar), (0x01, 32, s.cfg.symLen), (0x02, 32, s.cfg.cpLen), (0x03, 32, s.cfg.preLen),
   (0x04, 32, s.cfg.lenBits), (0x05, 32, s.cfg.lenMin), (0x06, 32, s.cfg.lenMax), (0x07, 32, s.cfg.syncKdot),
   (0x08, 32, s.cfg.syncKen), (0x09, 32, s.cfg.csWin), (0x0A, 32, s.cfg.csPow), (0x0B, s.prm.thw, s.cfg.thBusy),
   (0x0C, s.prm.thw, s.cfg.thColl), (0x20, 32, s.statusWord), (0x21, s.prm.cntBits, s.badFrames),
   (0x22, 32, s.txq.length), (0x23, 32, s.rx.length), (0x24, 32, s.rxf.length),
   (0x25, s.prm.cntBits, (s.rxBase + s.rx.length) % 2 ^ s.prm.cntBits), (0x26, s.prm.thw, s.csSum.toNat)]

/-- The bit vector `b` with bit `p` inverted. -/
def flipBit (b : Bits) (p : Nat) : Bits := b.set p (!b.getD p false)

/-- The bitwise exclusive or of two vectors of one length. -/
def xorBits (a b : Bits) : Bits := List.zipWith (fun x y => x ^^ y) a b

/-- The polynomial of a bit vector over GF(2), `b[0]` the highest-order coefficient (R208 (b)). -/
noncomputable def bitPoly (b : Bits) : Polynomial (ZMod 2) :=
  ((List.range b.length).map fun i =>
    if b.getD i false then (Polynomial.X : Polynomial (ZMod 2)) ^ (b.length - 1 - i) else 0).sum

/-- `g(x) = x⁸ + x⁷ + x⁶ + x⁴ + x² + 1` (R201, R208 (b)). -/
noncomputable def crcPoly : Polynomial (ZMod 2) :=
  Polynomial.X ^ 8 + Polynomial.X ^ 7 + Polynomial.X ^ 6 + Polynomial.X ^ 4 + Polynomial.X ^ 2 + 1

/-- One step of the shift register of R208 (c). -/
def shiftCrc (r : Bits) (u : Bool) : Bits :=
  xorBits (r.drop 1 ++ [false])
    (if (r.headD false ^^ u) then [true, true, false, true, false, true, false, true] else List.replicate 8 false)

/-- The window energy and the squared dot product of R171 over a list of samples, at window start `w`. -/
def listDot (s : State) (xs : List Sample) (w : Nat) : Int :=
  sumTo s.cfg.preLen fun i => xs.getD (w + i) 0 * s.tblSample 0 i

/-- `E_rx(w)` of R171 over a list of samples. -/
def listEnergy (s : State) (xs : List Sample) (w : Nat) : Int := sumTo s.cfg.preLen fun i => xs.getD (w + i) 0 ^ 2

/-- `E_pre` of R171. -/
def preEnergy (s : State) : Int := sumTo s.cfg.preLen fun i => s.tblSample 0 i ^ 2

/-- `hit(w)` of R171 over a list of samples. -/
def listHit (s : State) (xs : List Sample) (w : Nat) : Prop :=
  s.cfg.syncKen * preEnergy s * listEnergy s xs w < s.cfg.syncKdot * listDot s xs w ^ 2

end Sys2Proof.Claims

open Sys2Proof Sys2Proof.Machine Sys2Proof.Claims

/-! Encoding. -/

/-- Every well-formed operation is read back from its encoding, whatever follows it (R100 to R103, R110, R111, R113). -/
def Obligations.DecodeEncodeAgree : Prop :=
  ∀ (p : Params) (i : Instr) (rest : List PortIn), p.valid = true → i.wellFormed p = true →
    decode p (encode i ++ rest) = .ok (i, rest)

/-- What the decoder reads from the command port is a well-formed operation, and exactly its encoding was consumed: no
command has a second encoding (R100 to R103, R112). -/
def Obligations.CommandsHaveOneEncoding : Prop :=
  ∀ (p : Params) (cw : Word) (inp rest : List PortIn) (i : Instr),
    decode p (.word cw :: inp) = .ok (i, rest) → i.wellFormed p = true ∧ encode i ++ rest = .word cw :: inp

/-- A few words of spec/30_encoding.md and spec/95_test_vectors.md, read by the decoder (R102, R110, R111). -/
def Obligations.WrittenOutWordsDecode : Prop :=
  decodeTableWord 32 0x00000000 = some .nop ∧ decodeTableWord 32 0x02000000 = some .enable ∧
    decodeTableWord 32 0x11070000 = some (.cfgRd 7) ∧ decodeTableWord 32 0x13040001 = some (.tblRd 4 1) ∧
    decode Params.default [.word 0x02000000, .word 2] = .ok (.enable, [.word 2]) ∧
    decodeTableWord 64 0x0000000210000000 = some (.cfgWr 0 [2]) ∧
    decodeTableWord 64 0xFFFFF83012000003 = some (.tblWr 0 3 0xFFFFF830) ∧
    decodeTableWord 16 0x8000 = some (.tick (-32768)) ∧ decodeTableWord 8 0b101 = some (.collect .getLength) ∧
    decodeTableWord 8 0b111 = none

/-- An illegal command word sets `FAULT` with code 0x01 and is consumed alone; in the fault state it is consumed alone and
has no effect; a legal one is never rejected as illegal (R102, R103, R112, R232). The list of offered words is
the model's own (log 2). -/
def Obligations.IllegalCommandWordsFault : Prop :=
  ∀ (s : State) (cw : Word) (rest : List PortIn), s.ports.inp = .word cw :: rest →
    (s.fault = false → ¬ legalCommand cw →
      step s = .next { s with fault := true, faultCode := 0x01, ports := { s.ports with inp := rest } }) ∧
    (s.fault = true → ¬ legalCommand cw → step s = .next { s with ports := { s.ports with inp := rest } }) ∧
    (legalCommand cw → ∀ r, fetch s.prm s.ports.inp ≠ .illegal r)

/-- When the ports offer an operation, a step takes it from the ports and executes it (R13, R73). The list of
what is offered is the model's own (log 2). -/
def Obligations.StepRunsTheDecodedOperation : Prop :=
  ∀ (s : State) (i : Instr) (rest : List PortIn), decode s.prm s.ports.inp = .ok (i, rest) →
    step s = exec i { s with ports := { s.ports with inp := rest } }

/-- A command whose words have not all arrived stays pending while `TICK`s proceed (R279). The list of what is offered
is the model's own (log 2). -/
def Obligations.PendingCommandLetsTicksProceed : Prop :=
  ∀ (s : State) (ws : List Word) (x : Word) (rest : List PortIn),
    decode s.prm (ws.map .word) = .error .incomplete →
      (s.ports.inp = ws.map .word → step s = .next s) ∧
      (s.ports.inp = ws.map .word ++ .sample x :: rest →
        step s = exec (.tick (sext s.prm.sw x.toNat))
          { s with ports := { s.ports with inp := ws.map .word ++ rest } })

/-! Bit vectors and beats. -/

/-- `ubits` and `uint` are inverse to each other (R9). -/
def Obligations.FieldBitsRoundTrip : Prop :=
  (∀ k v, v < 2 ^ k → (ubits k v).length = k ∧ uint (ubits k v) = v) ∧ ∀ b : Bits, ubits b.length (uint b) = b

/-- A packed bit vector is read back as an input beat group (R10, R101). -/
def Obligations.BitVectorBeatsRoundTrip : Prop :=
  ∀ b : Bits, (pack b).length = (b.length + 31) / 32 ∧ bitsIn b.length (pack b) = some b

/-- A value beat of a register is read back as the value it carries (R101, R71 (d)). -/
def Obligations.ValueBeatsRoundTrip : Prop :=
  ∀ width v, v < 2 ^ width → valueIn width (valueOut width v) = some v

/-! CRC-8. -/

/-- An appended residual checks, and with any one bit inverted it does not; the division is linear over GF(2) (R206). -/
def Obligations.SingleBitErrorsAreCaught : Prop :=
  (∀ b : Bits, (crcAppend b).length = b.length + 8 ∧ crcCheck (crcAppend b) = true ∧
    ∀ p, p < b.length + 8 → crcCheck (flipBit (crcAppend b) p) = false) ∧
  ∀ a b : Bits, a.length = b.length → crcResidual (xorBits a b) = xorBits (crcResidual a) (crcResidual b)

/-- The residual is the remainder of `b(x)·x⁸` divided by the generator polynomial (R208 (b)). -/
def Obligations.ResidualIsPolynomialRemainder : Prop :=
  ∀ b : Bits, (crcResidual b).length = 8 ∧
    bitPoly (crcResidual b) = (bitPoly b * (Polynomial.X : Polynomial (ZMod 2)) ^ 8) %ₘ crcPoly

/-- The shift-register form and the unpadded check compute the same as the division (R208 (a), (c)). -/
def Obligations.EquivalentCrcForms : Prop :=
  (∀ b : Bits, crcResidual b = b.foldl shiftCrc (List.replicate 8 false)) ∧
    ∀ v : Bits, 8 ≤ v.length → crcCheck v = decide (divide (v.length - 8) v = List.replicate 8 false)

/-- What the residual does not catch (R207): the generator as an error pattern at any alignment; two inverted bits a
multiple of 93 apart, and no other two; zeros, and zeros in front. -/
def Obligations.UndetectedPatterns : Prop :=
  (∀ (v : Bits) (p : Nat), p + 9 ≤ v.length →
    crcCheck (xorBits v (List.replicate p false ++ [true, true, true, false, true, false, true, false, true] ++
      List.replicate (v.length - 9 - p) false)) = crcCheck v) ∧
  (∀ (b : Bits) (i j : Nat), i < j → j < b.length + 8 →
    (crcCheck (flipBit (flipBit (crcAppend b) i) j) = true ↔ 93 ∣ j - i)) ∧
  ∀ (b : Bits) (k : Nat), crcCheck (List.replicate k false) = true ∧
    crcResidual (List.replicate k false ++ b) = crcResidual b

/-- `CRC_APPEND` and `CRC_CHECK` answer with the functions of R203 and write no state; a violated format faults with
code 0x06 (R204, R205). That a vector of more than `BITBUF_CAP` bits is answered too is the model's choice (log 22). -/
def Obligations.CrcCommandsAnswer : Prop :=
  ∀ (s : State) (n : BitVec 16) (ws : List Word), s.fault = false →
    (∀ b, bitsIn n.toNat ws = some b →
      exec (.crcAppend n ws) s = .next (answered (pack (b ++ crcResidual b)) s) ∧
      exec (.crcCheck n ws) s =
        .next (answered [if crcResidual b = List.replicate 8 false then 1 else 0] s)) ∧
    (bitsIn n.toNat ws = none →
      exec (.crcAppend n ws) s = .next (raised 0x06 s) ∧ exec (.crcCheck n ws) s = .next (raised 0x06 s))

/-! Reset, configuration and table. -/

/-- Every element after reset (R48, R260). -/
def Obligations.ResetValues : Prop :=
  ∀ p : Params,
    let s := State.resetOf p
    (s.en = false ∧ s.fault = false ∧ s.faultCode = 0 ∧ s.busy = false ∧ s.collision = false) ∧
    s.cfg = { nCar := 0, symLen := 0, cpLen := 0, preLen := 0, lenBits := 0, lenMin := 0, lenMax := 0, syncKdot := 2,
              syncKen := 1, csWin := 0, csPow := 2, thBusy := 0, thColl := 0 } ∧
    (∀ sel addr, s.tblEntry sel addr = none) ∧
    (s.energy.length = 2 * p.nMax + 1 ∧ ∀ e ∈ s.energy, e = 0) ∧
    (s.txq = [] ∧ s.rxf = [] ∧ s.rx = [] ∧ s.rxBase = 0 ∧ s.rxWr = 0 ∧ s.cur = 0 ∧ s.saved = 0) ∧
    (s.st = .waitHeader ∧ s.collecting = false ∧ s.candValid = false ∧ s.candPos = 0 ∧ s.candD2 = 0 ∧ s.candE = 0) ∧
    (s.bitbuf = [] ∧ s.need = 0 ∧ s.lenVal = 0) ∧
    (s.csHist.length = p.csWinMax ∧ (∀ v ∈ s.csHist, v = 0) ∧ s.csSum = 0 ∧ s.badFrames = 0) ∧
    (s.sampleOut = 0 ∧ s.levelBusy = false ∧ s.levelCollision = false ∧ s.levelFault = false ∧
      s.levelFrameAvail = false)

/-- `NOP` leaves every element unchanged in every state; its encoding is the zero word, and a zero opcode with a non-zero
field is not read as a command (R131). -/
def Obligations.NopChangesNothing : Prop :=
  ∀ (s : State) (rest : List PortIn), exec .nop s = .next s ∧
    decode s.prm (.word 0x00000000 :: rest) = .ok (.nop, rest) ∧
    ∀ cw : Word, cw.toNat / 2 ^ 24 = 0 → cw ≠ 0 → decode s.prm (.word cw :: rest) = .error .nonZeroMbz

/-- `SRESET` gives every state element its reset value, in the fault state as well (R132, R260). What has passed at the
ports is the model's own record, outside the block, and stays (log 4). -/
def Obligations.SresetGivesTheResetState : Prop :=
  ∀ s : State, exec .sreset s = .next { State.resetOf s.prm with ports := s.ports }

/-- `WF` is the conjunction of (W1) to (W15), and `ENABLE` without it is the fault with code 0x04 (R33). -/
def Obligations.WellFormednessIsItsConjuncts : Prop :=
  ∀ s : State, (s.wfConfig = true ↔
    (1 ≤ s.cfg.nCar ∧ s.cfg.nCar ≤ s.prm.nMax) ∧ (1 ≤ s.cfg.symLen ∧ s.cfg.symLen ≤ s.prm.sMax) ∧
    s.cfg.cpLen ≤ s.cfg.symLen ∧ (1 ≤ s.cfg.preLen ∧ s.cfg.preLen ≤ s.prm.pMax) ∧
    (1 ≤ s.cfg.lenBits ∧ s.cfg.lenBits ≤ s.prm.lMax) ∧
    (s.prm.hdrBits + 16 ≤ s.cfg.lenMin ∧ s.cfg.lenMin ≤ s.cfg.lenMax ∧ s.cfg.lenMax ≤ s.prm.bitbufCap) ∧
    (1 ≤ s.cfg.syncKdot ∧ 1 ≤ s.cfg.syncKen) ∧ (1 ≤ s.cfg.csWin ∧ s.cfg.csWin ≤ s.prm.csWinMax) ∧
    (s.cfg.csPow = 2 ∨ s.cfg.csPow = 4) ∧ s.cfg.thBusy ≤ s.cfg.thColl ∧
    ((∀ i < s.cfg.preLen, s.tblEntry 0 i ≠ none) ∧
      ∀ c < s.cfg.nCar, ∀ b : Bool, ∀ i < s.cfg.symLen, s.tblEntry (1 + 2 * c + b.toNat) i ≠ none) ∧
    0 < sumTo s.cfg.preLen (fun i => s.tblSample 0 i ^ 2) ∧
    (∀ i < s.cfg.symLen,
      sumTo s.cfg.nCar (fun c => max |bas s c false i| |bas s c true i|) ≤ 2 ^ (s.prm.sw - 1) - 1) ∧
    max (2 * s.cfg.preLen) ((s.cfg.lenBits + s.cfg.nCar - 1) / s.cfg.nCar * (s.cfg.cpLen + s.cfg.symLen)) ≤
      s.prm.rxqCap ∧
    s.cfg.preLen + ((s.cfg.lenBits + s.cfg.nCar - 1) / s.cfg.nCar + (s.cfg.lenMax + s.cfg.nCar - 1) / s.cfg.nCar) *
      (s.cfg.cpLen + s.cfg.symLen) ≤ s.prm.txqCap) ∧
    (s.fault = false → s.en = false → s.wfConfig = false → exec .enable s = .next (raised 0x04 s))

/-- `ENABLE` (R134): refused while enabled (code 0x03) or when `WF` fails (code 0x04); otherwise it computes the energies
and sets `EN`, and changes nothing else. -/
def Obligations.EnableFollowsItsRule : Prop :=
  ∀ s : State, s.fault = false →
    (s.en = true → exec .enable s = .next (raised 0x03 s)) ∧
    (s.en = false → s.wfConfig = false → exec .enable s = .next (raised 0x04 s)) ∧
    (s.en = false → s.wfConfig = true → ∃ es : List Nat,
      exec .enable s = .next { s with energy := es, en := true } ∧ es.length = 2 * s.prm.nMax + 1 ∧
      (es.getD 0 0 : Int) = sumTo s.cfg.preLen (fun i => s.tblSample 0 i ^ 2) ∧
      (∀ c < s.cfg.nCar, ∀ b : Bool,
        (es.getD (1 + 2 * c + b.toNat) 0 : Int) = sumTo s.cfg.symLen (fun i => bas s c b i ^ 2)) ∧
      ∀ sel, 2 * s.cfg.nCar < sel → es.getD sel 0 = 0)

/-- `CFG_WR` (R135): a value not below `2^W` faults with code 0x06, then an index that is not a configuration register
with 0x02, then a locked configuration with 0x03; otherwise the register is written and nothing else. -/
def Obligations.CfgWrFollowsItsRule : Prop :=
  ∀ (s : State) (idx : BitVec 8) (ws : List Word), s.fault = false → ws.length = s.prm.cfgWrWords idx →
    ((∃ w, s.prm.regWidth idx.toNat = some w ∧ 2 ^ w ≤ beatValue ws) →
      exec (.cfgWr idx ws) s = .next (raised 0x06 s)) ∧
    ((∀ w, s.prm.regWidth idx.toNat = some w → beatValue ws < 2 ^ w) →
      (0x0C < idx.toNat → exec (.cfgWr idx ws) s = .next (raised 0x02 s)) ∧
      (idx.toNat ≤ 0x0C → s.en = true → exec (.cfgWr idx ws) s = .next (raised 0x03 s)) ∧
      (idx.toNat ≤ 0x0C → s.en = false →
        exec (.cfgWr idx ws) s = .next { s with cfg := s.cfg.set idx.toNat (beatValue ws) }))

/-- A configuration register reads back what was written and no other register changes (R31, R135, R136). -/
def Obligations.CfgWrReadsBack : Prop :=
  ∀ (c : CfgRegs) (idx v : Nat), idx ≤ 0x0C →
    (c.set idx v).get idx = v ∧ ∀ j, j ≤ 0x0C → j ≠ idx → (c.set idx v).get j = c.get j

/-- `CFG_RD` (R136, R31, R35, R36): the value beat of every mapped register, at any `EN` and in the fault state, and no
other effect; an unmapped index faults with code 0x02, and in the fault state does nothing (R232). -/
def Obligations.CfgRdFollowsItsRule : Prop :=
  ∀ (s : State) (idx : BitVec 8),
    (∀ e ∈ registerMap s, idx.toNat = e.1 → exec (.cfgRd idx) s = .next (answered (valueOut e.2.1 e.2.2) s)) ∧
    (∀ sel, sel ≤ 2 * s.prm.nMax → idx.toNat = 0x40 + sel →
      exec (.cfgRd idx) s = .next (answered (valueOut s.prm.enw (s.energy.getD sel 0)) s)) ∧
    ((∀ e ∈ registerMap s, idx.toNat ≠ e.1) → ¬ (0x40 ≤ idx.toNat ∧ idx.toNat ≤ 0x40 + 2 * s.prm.nMax) →
      exec (.cfgRd idx) s = .next (if s.fault then s else raised 0x02 s))

/-- The fields of `STATUS`, its reserved bits, and the four level outputs (R36, R240). -/
def Obligations.StatusFieldsAndLevels : Prop :=
  ∀ s : State,
    (s.statusWord.testBit 0 = s.en ∧ s.statusWord.testBit 1 = s.fault ∧ s.statusWord.testBit 2 = s.busy ∧
      s.statusWord.testBit 3 = s.collision ∧ s.statusWord.testBit 4 = decide (0 < s.rxf.length) ∧
      s.statusWord.testBit 5 = decide (0 < s.txq.length) ∧ s.statusWord.testBit 6 = s.collecting ∧
      s.statusWord.testBit 7 = false) ∧
    s.statusWord / 2 ^ 8 % 4 = s.st.code ∧ s.statusWord / 2 ^ 10 % 2 ^ 6 = 0 ∧
    s.statusWord / 2 ^ 16 % 2 ^ 8 = s.faultCode.toNat ∧ s.statusWord < 2 ^ 24 ∧
    s.levelBusy = s.busy ∧ s.levelCollision = s.collision ∧ s.levelFault = s.fault ∧
    s.levelFrameAvail = decide (0 < s.rxf.length)

/-- `TBL_WR` (R137): a word that is no sample faults with code 0x06, then an unmapped place with 0x02, then a locked
table with 0x03; otherwise that entry holds the sample, every other entry is as before, and nothing else changes. That the
table is a list with a canonical form, which the write keeps, is the model's choice (log 16). -/
def Obligations.TblWrFollowsItsRule : Prop :=
  ∀ (s : State) (sel : BitVec 8) (addr : BitVec 16) (w : Word), s.fault = false →
    (¬ (s.prm.smin ≤ w.toInt ∧ w.toInt ≤ s.prm.smax) → exec (.tblWr sel addr w) s = .next (raised 0x06 s)) ∧
    (s.prm.smin ≤ w.toInt ∧ w.toInt ≤ s.prm.smax →
      (s.prm.tblMapped sel.toNat addr.toNat = false → exec (.tblWr sel addr w) s = .next (raised 0x02 s)) ∧
      (s.prm.tblMapped sel.toNat addr.toNat = true → s.en = true →
        exec (.tblWr sel addr w) s = .next (raised 0x03 s)) ∧
      (s.prm.tblMapped sel.toNat addr.toNat = true → s.en = false → ∃ m : Memory,
        exec (.tblWr sel addr w) s = .next { s with tbl := m } ∧ Memory.read m (tblKey sel.toNat addr.toNat) = some w.toInt ∧
        (∀ sel' addr', addr' < 65536 → (sel' ≠ sel.toNat ∨ addr' ≠ addr.toNat) →
          Memory.read m (tblKey sel' addr') = s.tblEntry sel' addr') ∧
        (Memory.wf s.tbl → Memory.wf m)))

/-- `TBL_RD` (R138): (false, 0) for an entry never written, (true, sample) otherwise, at any `EN` and in the fault state;
an unmapped place faults with code 0x02, and in the fault state does nothing (R232). -/
def Obligations.TblRdFollowsItsRule : Prop :=
  ∀ (s : State) (sel : BitVec 8) (addr : BitVec 16),
    (sel.toNat ≤ 2 * s.prm.nMax ∧ addr.toNat < (if sel.toNat = 0 then s.prm.pMax else s.prm.sMax) →
      (s.tblEntry sel.toNat addr.toNat = none → exec (.tblRd sel addr) s = .next (answered [0, 0] s)) ∧
      ∀ v, s.tblEntry sel.toNat addr.toNat = some v →
        exec (.tblRd sel addr) s = .next (answered [1, BitVec.ofInt 32 v] s)) ∧
    (¬ (sel.toNat ≤ 2 * s.prm.nMax ∧ addr.toNat < (if sel.toNat = 0 then s.prm.pMax else s.prm.sMax)) →
      exec (.tblRd sel addr) s = .next (if s.fault then s else raised 0x02 s))

/-- No operation changes the static parameters, and while `EN = 1` none but `SRESET` changes the configuration, the
table, the energies or `EN` (R4, R32, R84, R134). -/
def Obligations.ConfigurationIsLockedWhileEnabled : Prop :=
  ∀ (i : Instr) (s t : State), exec i s = .next t →
    t.prm = s.prm ∧ (s.en = true → i ≠ .sreset → t.cfg = s.cfg ∧ t.tbl = s.tbl ∧ t.energy = s.energy ∧ t.en = true)

/-! The modulator. -/

/-- `MODULATE` (R157): the checks in their order, each with its code; otherwise the waveform joins the transmit queue and
nothing else changes. -/
def Obligations.ModulateFollowsItsRule : Prop :=
  ∀ (s : State) (n : BitVec 16) (hw pw : List Word), s.fault = false →
    (bitsIn s.prm.hdrBits hw = none ∨ bitsIn n.toNat pw = none →
      exec (.modulate n hw pw) s = .next (raised 0x06 s)) ∧
    ∀ hdr pay, bitsIn s.prm.hdrBits hw = some hdr → bitsIn n.toNat pw = some pay →
      exec (.modulate n hw pw) s =
        .next (if s.en = false then raised 0x05 s
          else if s.cfg.lenMax < s.prm.hdrBits + 16 + n.toNat then raised 0x10 s
          else if s.prm.hdrBits + 16 + n.toNat < s.cfg.lenMin then raised 0x11 s
          else if 2 ^ s.cfg.lenBits ≤ s.prm.hdrBits + 16 + n.toNat then raised 0x12 s
          else if s.prm.txqCap < s.txq.length + (s.waveform hdr pay).length then raised 0x13 s
          else { s with txq := s.txq ++ s.waveform hdr pay })

/-- A waveform is the preamble, the length group and the body group, of the stated number of samples (R104, R105, R107,
R151, R155). -/
def Obligations.WaveformParts : Prop :=
  ∀ (s : State) (hdr pay : Bits), 1 ≤ s.cfg.nCar → s.cfg.cpLen ≤ s.cfg.symLen → hdr.length = s.prm.hdrBits →
    s.waveform hdr pay =
        (List.range s.cfg.preLen).map (s.tblSample 0) ++
          s.group (ubits s.cfg.lenBits (s.prm.hdrBits + 16 + pay.length)) ++
          s.group (hdr ++ crcResidual hdr ++ (pay ++ crcResidual pay)) ∧
      (s.waveform hdr pay).length =
        s.cfg.preLen + (s.cfg.nsymL + s.cfg.nsym (s.prm.hdrBits + 16 + pay.length)) * (s.cfg.cpLen + s.cfg.symLen)

/-- Sample `i` of symbol `m` of a group is the sum over the carriers of the waveform the bit `m·N + c` selects (0 past the
end of the group), the first `CP` samples repeating the last ones of the core (R152, R154). -/
def Obligations.GroupSamplesAreCarrierSums : Prop :=
  ∀ (s : State) (b : Bits) (m i : Nat), 1 ≤ s.cfg.nCar → s.cfg.cpLen ≤ s.cfg.symLen →
    m < (b.length + s.cfg.nCar - 1) / s.cfg.nCar → i < s.cfg.cpLen + s.cfg.symLen →
      (s.group b)[m * (s.cfg.cpLen + s.cfg.symLen) + i]? =
        some (sumTo s.cfg.nCar fun c => bas s c (b.getD (m * s.cfg.nCar + c) false)
          (if i < s.cfg.cpLen then s.cfg.symLen - s.cfg.cpLen + i else i - s.cfg.cpLen))

/-- When `WF` holds, every core sample is bounded by the sum of the larger magnitudes, every sample of every symbol and
group lies in `[-SMAX, SMAX]`, and the preamble's samples are samples (R153). -/
def Obligations.SynthesisedSamplesFit : Prop :=
  ∀ s : State, s.wfConfig = true →
    (∀ (β : Bits) (i : Nat), i < s.cfg.symLen →
      |s.coreSample β i| ≤ sumTo s.cfg.nCar (fun c => max |bas s c false i| |bas s c true i|) ∧
      sumTo s.cfg.nCar (fun c => max |bas s c false i| |bas s c true i|) ≤ s.prm.smax) ∧
    (∀ β : Bits, ∀ v ∈ s.symbol β ++ s.group β, -s.prm.smax ≤ v ∧ v ≤ s.prm.smax) ∧
    (StorageInv s → ∀ v ∈ s.preWave, s.prm.smin ≤ v ∧ v ≤ s.prm.smax)

/-- `TX_ABORT` empties the transmit queue and changes nothing else (R158). -/
def Obligations.TxAbortEmptiesTheQueue : Prop :=
  ∀ s : State, s.fault = false → exec .txAbort s = .next { s with txq := [] }

/-! The sample port and the carrier-sense detector. -/

/-- `TICK` of an enabled block whose ring has room: the push, the carrier-sense update, the transmit pop, then RXSYNC run to
closure, by steps which touch the receiver only, until none is enabled; the output sample is the one popped (R221, R212,
R75, R76, R190). -/
def Obligations.TickDoesItsFourEffects : Prop :=
  ∀ (s : State) (x : Sample), s.en = true → s.fault = false → s.rx.length ≠ s.prm.rxqCap →
    1 ≤ s.cfg.csWin → s.cfg.csWin ≤ s.csHist.length →
    let sum := s.csSum + x ^ s.cfg.csPow - s.csHist.getD (s.cfg.csWin - 1) 0 ^ s.cfg.csPow
    let u : State :=
      { s with
        rx := s.rx ++ [x]
        csSum := sum
        csHist := x :: (s.csHist.take (s.cfg.csWin - 1) ++ s.csHist.drop s.cfg.csWin)
        busy := decide ((s.cfg.thBusy : Int) < sum)
        collision := decide ((s.cfg.thColl : Int) < sum)
        txq := s.txq.tail }
    let v := rxClosure u
    exec (.tick x) s = .next (returned (s.txq.headD 0) v) ∧ SyncSteps u v ∧ onlyReceiver u v ∧
      (RingPositions s → rxStep v = none)

/-- `TICK` while disabled or in the fault state returns 0 and changes nothing; on a full ring it faults with code 0x14,
returns 0 and changes nothing else (R221, R75). -/
def Obligations.TickIdleOrOverflow : Prop :=
  ∀ (s : State) (x : Sample),
    (s.en = false ∨ s.fault = true → exec (.tick x) s = .next (returned 0 s)) ∧
    (s.en = true → s.fault = false → s.rx.length = s.prm.rxqCap →
      exec (.tick x) s = .next (returned 0 (raised 0x14 s)))

/-- The transmit queue leaves the sample port in order, one sample per `TICK`, then zeros (R80 (a), R76, R221).
The list of returned samples is the model's own (log 4). -/
def Obligations.TransmitQueueLeavesInOrder : Prop :=
  ∀ (s : State) (xs : List Sample), s.en = true → s.fault = false → (afterTicks xs s).fault = false →
    (afterTicks xs s).ports.smpOut =
        s.ports.smpOut ++ (s.txq ++ List.replicate xs.length 0).take xs.length ∧
      (afterTicks xs s).txq = s.txq.drop xs.length

/-- What a `TICK` returns and leaves to be sent does not depend on its input (R221). -/
def Obligations.OutputIgnoresInput : Prop :=
  ∀ (s t t' : State) (x x' : Sample), exec (.tick x) s = .next t → exec (.tick x') s = .next t' →
    t.sampleOut = t'.sampleOut ∧ t.txq = t'.txq ∧ t.ports = t'.ports

/-- The carrier-sense state after a `TICK` is a function of the carrier-sense state before it, the configuration and the
input: two blocks that agree on these agree after it, whatever their synchronisers hold (R210, R214). -/
def Obligations.CarrierSenseIgnoresTheReceiver : Prop :=
  ∀ (s s' t t' : State) (x : Sample), s.en = true → s'.en = true → s.fault = false → s'.fault = false →
    s.rx.length ≠ s.prm.rxqCap → s'.rx.length ≠ s'.prm.rxqCap → s.cfg = s'.cfg → s.csHist = s'.csHist →
    s.csSum = s'.csSum → exec (.tick x) s = .next t → exec (.tick x) s' = .next t' →
      t.csHist = t'.csHist ∧ t.csSum = t'.csSum ∧ t.busy = t'.busy ∧ t.collision = t'.collision

/-- The closed form of the sliding sum (R213): after the `TICK`s `xs` of a block just enabled, `cs_sum` is the sum over the
last `CS_WIN` inputs, zeros before the first; its range, when it is 0, and what that says of the flags. -/
def Obligations.SlidingSumHasItsClosedForm : Prop :=
  ∀ (s : State) (xs : List Sample), s.en = true → s.fault = false → s.wfConfig = true →
    s.csHist = List.replicate s.prm.csWinMax 0 → s.csSum = 0 → xs ≠ [] → (afterTicks xs s).fault = false →
    let t := afterTicks xs s
    let x := fun j => xs.reverse.getD j 0
    t.csSum = sumTo s.cfg.csWin (fun j => x j ^ s.cfg.csPow) ∧ 0 ≤ t.csSum ∧
    ((∀ v ∈ xs, s.prm.isSample v = true) →
      t.csSum ≤ s.cfg.csWin * 2 ^ (s.cfg.csPow * (s.prm.sw - 1)) ∧ t.csSum < 2 ^ s.prm.thw) ∧
    (t.csSum = 0 ↔ ∀ j < s.cfg.csWin, x j = 0) ∧ (t.collision = true → t.busy = true) ∧
    (s.cfg.thBusy = 0 → (t.busy = true ↔ ∃ j < s.cfg.csWin, x j ≠ 0))

/-- The receiver and the detector do not read the transmit side: two blocks equal but for the transmit queue and the
ports stay so after a `TICK` with the same input (R83, R191, R210, R214). -/
def Obligations.ReceiverIgnoresTheTransmitter : Prop :=
  ∀ (s s' t t' : State) (x : Sample), receiverSide s = receiverSide s' → exec (.tick x) s = .next t →
    exec (.tick x) s' = .next t' → receiverSide t = receiverSide t'

/-! The synchroniser. -/

/-- `SCAN` (R171, R172): the window quantities as sums, then a confirmation, a discard up to the candidate, or a discard of
the window start. That a window below `rx_base` is not scanned is the model's choice (log 7). -/
def Obligations.ScanFollowsItsRule : Prop :=
  ∀ s : State, s.en = true → s.fault = false → s.st = .waitHeader → s.collecting = false → s.rxBase ≤ s.cur →
    s.cur + s.cfg.preLen ≤ s.rxBase + s.rx.length →
    let d := sumTo s.cfg.preLen fun i => rxAt s (s.cur + i) * s.tblSample 0 i
    let e := sumTo s.cfg.preLen fun i => rxAt s (s.cur + i) ^ 2
    let better := decide (s.cfg.syncKen * s.energy.getD 0 0 * e < s.cfg.syncKdot * d ^ 2) &&
      (!s.candValid || decide (s.candD2 * e < d ^ 2 * s.candE))
    let pos := if better then s.cur else s.candPos
    let c : State :=
      if better then
        { s with candValid := true, candPos := s.cur, candD2 := (d ^ 2).toNat, candE := e.toNat, cur := s.cur + 1 }
      else { s with cur := s.cur + 1 }
    (c.candValid = true → s.cur = pos + s.cfg.preLen →
      exec .scan s = .next
        { s with
          rxBase := pos + s.cfg.preLen
          rx := s.rx.drop (pos + s.cfg.preLen - s.rxBase)
          cur := pos + s.cfg.preLen
          saved := pos + s.cfg.preLen
          candValid := false
          candPos := 0
          candD2 := 0
          candE := 0
          bitbuf := []
          need := s.cfg.lenBits
          collecting := true
          st := .getLength }) ∧
    (c.candValid = true → s.cur ≠ pos + s.cfg.preLen →
      exec .scan s = .next { c with rxBase := pos, rx := s.rx.drop (pos - s.rxBase) }) ∧
    (c.candValid = false →
      exec .scan s = .next { c with rxBase := s.cur + 1, rx := s.rx.drop (s.cur + 1 - s.rxBase) })

/-- `COLLECT` (R174, R175): each carrier's bit is 1 iff its dot product with basis 1 exceeds that with basis 0; the first
`min(N, need - |bitbuf|)` bits join the group, `cur` advances by `SYM`, in `GET_PAYLOAD` the symbol is discarded, and a
full group ends the collection. That a symbol below `rx_base` is not read is the model's choice (log 7). -/
def Obligations.CollectFollowsItsRule : Prop :=
  ∀ s : State, s.en = true → s.fault = false → s.collecting = true → s.rxBase ≤ s.cur →
    s.cur + (s.cfg.cpLen + s.cfg.symLen) ≤ s.rxBase + s.rx.length →
    let bit := fun c => decide
      ((sumTo s.cfg.symLen fun i => rxAt s (s.cur + s.cfg.cpLen + i) * bas s c false i) <
        sumTo s.cfg.symLen fun i => rxAt s (s.cur + s.cfg.cpLen + i) * bas s c true i)
    let buf := s.bitbuf ++ (List.range (min s.cfg.nCar (s.need - s.bitbuf.length))).map bit
    let next := s.cur + (s.cfg.cpLen + s.cfg.symLen)
    let full := decide (buf.length = s.need)
    (s.st = .getLength →
      exec (.collect .getLength) s = .next
        { s with
          bitbuf := buf
          cur := next
          collecting := !full
          st := if full then .getPayload else .getLength }) ∧
    (s.st = .getPayload →
      exec (.collect .getPayload) s = .next
        { s with
          bitbuf := buf
          cur := next
          rxBase := next
          rx := s.rx.drop (next - s.rxBase)
          collecting := !full
          st := if full then .checkPayload else .getPayload })

/-- `INTERPRET` (R179): a length outside `[LEN_MIN, LEN_MAX]` is counted and rewinds to the saved position; one inside
starts the collection of that many bits and discards the length field's samples. -/
def Obligations.InterpretFollowsItsRule : Prop :=
  ∀ s : State, s.en = true → s.fault = false → s.st = .getPayload → s.collecting = false →
    (uint s.bitbuf < s.cfg.lenMin ∨ s.cfg.lenMax < uint s.bitbuf →
      exec .interpret s = .next
        { s with
          badFrames := (s.badFrames + 1) % 2 ^ s.prm.cntBits
          cur := s.saved
          st := .waitHeader
          candValid := false
          bitbuf := [] }) ∧
    (s.cfg.lenMin ≤ uint s.bitbuf ∧ uint s.bitbuf ≤ s.cfg.lenMax →
      exec .interpret s = .next
        { s with
          lenVal := uint s.bitbuf
          need := uint s.bitbuf
          bitbuf := []
          collecting := true
          rxBase := s.cur
          rx := s.rx.drop (s.cur - s.rxBase) })

/-- `CHECK` (R181 to R183): a bad header is counted and nothing is emitted; a good header with a bad payload emits a
record without payload, marked; both good emit the record with its payload and route bit. -/
def Obligations.CheckFollowsItsRule : Prop :=
  ∀ s : State, s.en = true → s.fault = false → s.st = .checkPayload → s.collecting = false →
    s.rxf.length < s.prm.rxfCap →
    let hc := s.bitbuf.take (s.prm.hdrBits + 8)
    let pc := (s.bitbuf.take s.lenVal).drop (s.prm.hdrBits + 8)
    let pay := pc.take (pc.length - 8)
    let field := fun i k => uint ((s.bitbuf.drop i).take k)
    let f : Frame :=
      { dst := field 0 s.prm.dstBits
        src := field s.prm.dstBits s.prm.srcBits
        seq := field (s.prm.dstBits + s.prm.srcBits) s.prm.seqBits
        ack := field (s.prm.dstBits + s.prm.srcBits + s.prm.seqBits) s.prm.ackBits
        flags := field (s.prm.dstBits + s.prm.srcBits + s.prm.seqBits + s.prm.ackBits) s.prm.flagBits
        badData := false
        route := pay.headD false
        payload := pay }
    let done : State := { s with st := .waitHeader, bitbuf := [], candValid := false }
    (crcCheck hc = false →
      exec .check s = .next { done with badFrames := (s.badFrames + 1) % 2 ^ s.prm.cntBits }) ∧
    (crcCheck hc = true → crcCheck pc = false →
      exec .check s = .next { done with rxf := s.rxf ++ [{ f with badData := true, route := false, payload := [] }] }) ∧
    (crcCheck hc = true → crcCheck pc = true → exec .check s = .next { done with rxf := s.rxf ++ [f] })

/-- A step of RXSYNC changes nothing where it is not selected or its guard is false: the block is disabled, in the fault
state, in another state of R170, or short of samples or queue space (R110, R170, R190). That such a turn is a step of the
model at all is its own choice (log 3). -/
def Obligations.StepsNotEnabledChangeNothing : Prop :=
  ∀ s : State,
    (s.en = false ∨ s.fault = true ∨ s.st ≠ .waitHeader ∨ s.collecting = true ∨
        s.rxBase + s.rx.length < s.cur + s.cfg.preLen → exec .scan s = .next s) ∧
    (s.en = false ∨ s.fault = true ∨ s.st ≠ .getLength ∨ s.collecting = false ∨
        s.rxBase + s.rx.length < s.cur + s.cfg.sym → exec (.collect .getLength) s = .next s) ∧
    (s.en = false ∨ s.fault = true ∨ s.st ≠ .getPayload ∨ s.collecting = false ∨
        s.rxBase + s.rx.length < s.cur + s.cfg.sym → exec (.collect .getPayload) s = .next s) ∧
    (s.en = false ∨ s.fault = true ∨ s.st ≠ .getPayload ∨ s.collecting = true → exec .interpret s = .next s) ∧
    (s.en = false ∨ s.fault = true ∨ s.st ≠ .checkPayload ∨ s.collecting = true ∨ s.rxf.length = s.prm.rxfCap →
      exec .check s = .next s)

/-- `RX_POP` (R185, R108): the status word and beats of the oldest frame, which leaves the queue, or the zero word; then
RXSYNC run to closure, by steps which touch the receiver only, until none is enabled (R190). -/
def Obligations.RxPopFollowsItsRule : Prop :=
  ∀ s : State, s.fault = false →
    (s.rxf = [] →
      let u := answered [0] s
      let v := rxClosure u
      exec .rxPop s = .next v ∧ SyncSteps u v ∧ onlyReceiver u v ∧ (RingPositions s → rxStep v = none)) ∧
    ∀ f fs, s.rxf = f :: fs →
      let swd : Word := BitVec.ofNat 32 (2 ^ 31 + f.badData.toNat * 2 ^ 30 + f.route.toNat * 2 ^ 29 + f.payload.length)
      let hdr := ubits s.prm.dstBits f.dst ++ ubits s.prm.srcBits f.src ++ ubits s.prm.seqBits f.seq ++
        ubits s.prm.ackBits f.ack ++ ubits s.prm.flagBits f.flags
      let u := answered (swd :: (pack hdr ++ pack f.payload)) { s with rxf := fs }
      let v := rxClosure u
      exec .rxPop s = .next v ∧ SyncSteps u v ∧ onlyReceiver u v ∧ (RingPositions s → rxStep v = none)

/-- The closure runs RXSYNC until no step is enabled (R190): the model's bound on its steps (log 6) is never too small. The
positions are as asked in every state of R47 and in every state inside a `TICK` or an `RX_POP`. -/
def Obligations.ClosureRunsToExhaustion : Prop :=
  ∀ s : State, RingPositions s → rxStep (rxClosure s) = none ∧ SyncSteps s (rxClosure s)

/-- Between two operations no step of RXSYNC is enabled (R13). -/
def Obligations.ReceiverRestsBetweenOperations : Prop := ∀ s : State, BlockInv s → rxStep s = none

/-- While the receiver is not stalled in `CHECK_PAYLOAD`, the ring holds fewer than `max(2·P, NSYM_L·SYM)` samples before
a push, and no input sample can fault (R271, R235). -/
def Obligations.RingNeverOverflowsUnlessStalled : Prop :=
  ∀ (s : State) (x : Sample), BlockInv s → s.fault = false → s.st ≠ .checkPayload →
    (s.en = true → s.rx.length < max (2 * s.cfg.preLen) (s.cfg.nsymL * (s.cfg.cpLen + s.cfg.symLen))) ∧
    ∃ t, exec (.tick x) s = .next t ∧ t.fault = false

/-- A receiver stalled on a full frame queue buffers one sample per `TICK` and stays stalled (R272). -/
def Obligations.StalledReceiverBuffers : Prop :=
  ∀ (s : State) (x : Sample), BlockInv s → s.en = true → s.fault = false → s.st = .checkPayload →
    s.rx.length < s.prm.rxqCap →
    ∃ t, exec (.tick x) s = .next t ∧ t.rx = s.rx ++ [x] ∧ t.st = .checkPayload ∧ t.rxf = s.rxf ∧
      t.bitbuf = s.bitbuf ∧ t.cur = s.cur ∧ t.rxBase = s.rxBase ∧ t.fault = false

/-- The squared correlation never exceeds the product of the energies, so with `K_DOT ≤ K_EN` no window is a hit (R171,
R275). -/
def Obligations.CorrelationIsBounded : Prop :=
  ∀ (s : State) (w : Nat), s.ePre = energyOf s.preWave →
    s.windowD2 w ≤ s.ePre * s.windowEnergy w ∧ (s.cfg.syncKdot ≤ s.cfg.syncKen → s.hit w = false)

/-- The body `MODULATE` assembles is the body from which `CHECK` makes the same record, with `bad_data = 0` (R151, R181 to
R183, R206). -/
def Obligations.CheckReadsBackTheBody : Prop :=
  ∀ (p : Params) (dst src seq ack flags : Nat) (pay : Bits), dst < 2 ^ p.dstBits → src < 2 ^ p.srcBits →
    seq < 2 ^ p.seqBits → ack < 2 ^ p.ackBits → flags < 2 ^ p.flagBits →
    let body := frameBody (headerBits p dst src seq ack flags) pay
    body.length = p.ovh + pay.length ∧ crcCheck (bitSlice body 0 p.hcBits) = true ∧
      frameOf p body body.length =
        { dst := dst, src := src, seq := seq, ack := ack, flags := flags, badData := false,
          route := pay.headD false, payload := pay }

/-- The round trip (R160): an enabled receiver that is scanning with an empty ring, given any leading samples and then the
waveform of a frame within its limits and `P` more samples, emits exactly that frame's record, under (H1), (H2) and
(H3). (H3)'s second half is asked of windows that are hits only. -/
def Obligations.RoundTripDeliversTheFrame : Prop :=
  ∀ (s : State) (junk tail : List Sample) (dst src seq ack flags : Nat) (pay : Bits),
    s.prm.valid = true → BlockInv s → s.en = true → s.fault = false → s.st = .waitHeader → s.candValid = false →
    s.rx = [] → s.rxf.length < s.prm.rxfCap →
    dst < 2 ^ s.prm.dstBits → src < 2 ^ s.prm.srcBits → seq < 2 ^ s.prm.seqBits → ack < 2 ^ s.prm.ackBits →
    flags < 2 ^ s.prm.flagBits →
    s.cfg.lenMin ≤ s.prm.ovh + pay.length → s.prm.ovh + pay.length ≤ s.cfg.lenMax →
    s.prm.ovh + pay.length < 2 ^ s.cfg.lenBits →
    Decodable s → s.cfg.syncKen < s.cfg.syncKdot →
    let wave := s.waveform (headerBits s.prm dst src seq ack flags) pay
    (∀ w, w + s.cfg.preLen < junk.length → ¬ listHit s (junk ++ wave) w) →
    (∀ w, w < junk.length → junk.length ≤ w + s.cfg.preLen → listHit s (junk ++ wave) w →
      listDot s (junk ++ wave) w ^ 2 ≠ preEnergy s * listEnergy s (junk ++ wave) w) →
    tail.length = s.cfg.preLen →
    let t := afterTicks (junk ++ wave ++ tail) s
    t.fault = false ∧ t.badFrames = s.badFrames ∧
      t.rxf = s.rxf ++ [{ dst := dst, src := src, seq := seq, ack := ack, flags := flags, badData := false,
                          route := pay.headD false, payload := pay }]

/-- Host commands other than `RX_POP` and `SRESET` do not touch the receive ring, the synchroniser, the frame queue, the
counter or the detector, whether they fault or not (R191, R214). -/
def Obligations.HostCommandsLeaveTheReceiver : Prop :=
  ∀ (i : Instr) (s t : State), leavesReceiver i = true → exec i s = .next t →
    t = { s with
      en := t.en
      fault := t.fault
      faultCode := t.faultCode
      cfg := t.cfg
      tbl := t.tbl
      energy := t.energy
      txq := t.txq
      ports := t.ports }

/-- `TICK`, `RX_POP` and the steps of RXSYNC change nothing but the receiver, the detector, the transmit queue's head,
the fault registers and what has passed at the ports (R210, R212, R221, R185, R191). That the sample output holds its value
between two `TICK`s, and that the ports keep histories, is the model's choice (log 4). -/
def Obligations.ReceiveOperationsFrame : Prop :=
  ∀ (i : Instr) (s t : State), leavesReceiver i = false → i ≠ .sreset → exec i s = .next t →
    t.en = s.en ∧ t.cfg = s.cfg ∧ t.tbl = s.tbl ∧ t.energy = s.energy ∧ t.ports.inp = s.ports.inp ∧
    ((∀ x, i ≠ .tick x) → t.txq = s.txq ∧ t.fault = s.fault ∧ t.faultCode = s.faultCode ∧ t.busy = s.busy ∧
      t.collision = s.collision ∧ t.csHist = s.csHist ∧ t.csSum = s.csSum ∧ t.sampleOut = s.sampleOut ∧
      t.ports.smpOut = s.ports.smpOut) ∧
    (i ≠ .rxPop → t.ports.cmdOut = s.ports.cmdOut)

/-! Faults. -/

/-- A fault is precise: an operation that raises one of the faults listed for it changes the two fault registers and
nothing else, but that a `TICK` returns 0 (R231, R230). -/
def Obligations.FaultsArePrecise : Prop :=
  ∀ (i : Instr) (s t : State), s.fault = false → exec i s = .next t → t.fault = true →
    ∃ k ∈ mayRaise i, t = (match i with
      | .tick _ => returned 0 (raised (faultCodeOf k) s)
      | _ => raised (faultCodeOf k) s)

/-- In the fault state every operation but `SRESET` leaves every element as it is; `TICK` returns 0, and only `CFG_RD` and
`TBL_RD` answer (R232; for an illegal command word see `IllegalCommandWordsFault`). That the sample output holds its value
between two `TICK`s, and that the ports keep histories, is the model's choice (log 4). -/
def Obligations.FaultStateIsFrozen : Prop :=
  ∀ (i : Instr) (s t : State), s.fault = true → i ≠ .sreset → exec i s = .next t →
    { t with sampleOut := s.sampleOut, ports := s.ports } = s ∧ t.ports.inp = s.ports.inp ∧
    (∀ x, i = .tick x → t = returned 0 s) ∧
    ((∀ x, i ≠ .tick x) → t.sampleOut = s.sampleOut ∧ t.ports.smpOut = s.ports.smpOut) ∧
    ((∀ idx, i ≠ .cfgRd idx) → (∀ sel addr, i ≠ .tblRd sel addr) → t.ports.cmdOut = s.ports.cmdOut)

/-! Invariants. -/

/-- Every step keeps the table's canonical form, its entries mapped samples, the register widths, the fault record and the
counter's width (R34, R31, R23, R45). -/
def Obligations.StepKeepsStorage : Prop := ∀ s t : State, StorageInv s → step s = .next t → StorageInv t

/-- Every step keeps the invariants of R47. -/
def Obligations.StepKeepsReceiverInvariants : Prop := ∀ s t : State, BlockInv s → step s = .next t → BlockInv t

/-- Every step keeps the closed form of the sliding sum and the flags it decides (R213, R212). -/
def Obligations.StepKeepsCarrierSense : Prop := ∀ s t : State, CarrierInv s → step s = .next t → CarrierInv t

/-- Every step keeps every sample the block holds or puts out within `[SMIN, SMAX]` (R8, R153, R220). -/
def Obligations.StepKeepsSamplesInRange : Prop :=
  ∀ s t : State, StorageInv s → BlockInv s → SampleInv s → step s = .next t → SampleInv t

/-- The reset state meets all four invariants (R48). -/
def Obligations.ResetMeetsTheInvariants : Prop :=
  ∀ p : Params, p.valid = true → StorageInv (State.resetOf p) ∧ BlockInv (State.resetOf p) ∧
    CarrierInv (State.resetOf p) ∧ SampleInv (State.resetOf p)
end

