-- ==== Sys2Proof/Laws/State.lean ====
section
/-! SUPPORT. One lemma per field per update of the state, each true by rfl, so that no proof unfolds a record update. -/

namespace Sys2Proof.Laws

open Sys2Proof.Machine

@[simp] theorem raiseFault_prm (f : FaultKind) (s : State) : (raiseFault f s).prm = s.prm := rfl
@[simp] theorem raiseFault_en (f : FaultKind) (s : State) : (raiseFault f s).en = s.en := rfl
@[simp] theorem raiseFault_fault (f : FaultKind) (s : State) : (raiseFault f s).fault = true := rfl
@[simp] theorem raiseFault_busy (f : FaultKind) (s : State) : (raiseFault f s).busy = s.busy := rfl
@[simp] theorem raiseFault_collision (f : FaultKind) (s : State) : (raiseFault f s).collision = s.collision := rfl
@[simp] theorem raiseFault_faultCode (f : FaultKind) (s : State) : (raiseFault f s).faultCode = faultCodeOf f := rfl
@[simp] theorem raiseFault_cfg (f : FaultKind) (s : State) : (raiseFault f s).cfg = s.cfg := rfl
@[simp] theorem raiseFault_tbl (f : FaultKind) (s : State) : (raiseFault f s).tbl = s.tbl := rfl
@[simp] theorem raiseFault_energy (f : FaultKind) (s : State) : (raiseFault f s).energy = s.energy := rfl
@[simp] theorem raiseFault_txq (f : FaultKind) (s : State) : (raiseFault f s).txq = s.txq := rfl
@[simp] theorem raiseFault_rxBase (f : FaultKind) (s : State) : (raiseFault f s).rxBase = s.rxBase := rfl
@[simp] theorem raiseFault_rx (f : FaultKind) (s : State) : (raiseFault f s).rx = s.rx := rfl
@[simp] theorem raiseFault_st (f : FaultKind) (s : State) : (raiseFault f s).st = s.st := rfl
@[simp] theorem raiseFault_collecting (f : FaultKind) (s : State) : (raiseFault f s).collecting = s.collecting := rfl
@[simp] theorem raiseFault_cur (f : FaultKind) (s : State) : (raiseFault f s).cur = s.cur := rfl
@[simp] theorem raiseFault_saved (f : FaultKind) (s : State) : (raiseFault f s).saved = s.saved := rfl
@[simp] theorem raiseFault_candValid (f : FaultKind) (s : State) : (raiseFault f s).candValid = s.candValid := rfl
@[simp] theorem raiseFault_candPos (f : FaultKind) (s : State) : (raiseFault f s).candPos = s.candPos := rfl
@[simp] theorem raiseFault_candD2 (f : FaultKind) (s : State) : (raiseFault f s).candD2 = s.candD2 := rfl
@[simp] theorem raiseFault_candE (f : FaultKind) (s : State) : (raiseFault f s).candE = s.candE := rfl
@[simp] theorem raiseFault_bitbuf (f : FaultKind) (s : State) : (raiseFault f s).bitbuf = s.bitbuf := rfl
@[simp] theorem raiseFault_need (f : FaultKind) (s : State) : (raiseFault f s).need = s.need := rfl
@[simp] theorem raiseFault_lenVal (f : FaultKind) (s : State) : (raiseFault f s).lenVal = s.lenVal := rfl
@[simp] theorem raiseFault_rxf (f : FaultKind) (s : State) : (raiseFault f s).rxf = s.rxf := rfl
@[simp] theorem raiseFault_csHist (f : FaultKind) (s : State) : (raiseFault f s).csHist = s.csHist := rfl
@[simp] theorem raiseFault_csSum (f : FaultKind) (s : State) : (raiseFault f s).csSum = s.csSum := rfl
@[simp] theorem raiseFault_badFrames (f : FaultKind) (s : State) : (raiseFault f s).badFrames = s.badFrames := rfl
@[simp] theorem raiseFault_sampleOut (f : FaultKind) (s : State) : (raiseFault f s).sampleOut = s.sampleOut := rfl
@[simp] theorem raiseFault_ports (f : FaultKind) (s : State) : (raiseFault f s).ports = s.ports := rfl

@[simp] theorem putBeats_prm (ws : List Word) (s : State) : (putBeats ws s).prm = s.prm := rfl
@[simp] theorem putBeats_en (ws : List Word) (s : State) : (putBeats ws s).en = s.en := rfl
@[simp] theorem putBeats_fault (ws : List Word) (s : State) : (putBeats ws s).fault = s.fault := rfl
@[simp] theorem putBeats_busy (ws : List Word) (s : State) : (putBeats ws s).busy = s.busy := rfl
@[simp] theorem putBeats_collision (ws : List Word) (s : State) : (putBeats ws s).collision = s.collision := rfl
@[simp] theorem putBeats_faultCode (ws : List Word) (s : State) : (putBeats ws s).faultCode = s.faultCode := rfl
@[simp] theorem putBeats_cfg (ws : List Word) (s : State) : (putBeats ws s).cfg = s.cfg := rfl
@[simp] theorem putBeats_tbl (ws : List Word) (s : State) : (putBeats ws s).tbl = s.tbl := rfl
@[simp] theorem putBeats_energy (ws : List Word) (s : State) : (putBeats ws s).energy = s.energy := rfl
@[simp] theorem putBeats_txq (ws : List Word) (s : State) : (putBeats ws s).txq = s.txq := rfl
@[simp] theorem putBeats_rxBase (ws : List Word) (s : State) : (putBeats ws s).rxBase = s.rxBase := rfl
@[simp] theorem putBeats_rx (ws : List Word) (s : State) : (putBeats ws s).rx = s.rx := rfl
@[simp] theorem putBeats_st (ws : List Word) (s : State) : (putBeats ws s).st = s.st := rfl
@[simp] theorem putBeats_collecting (ws : List Word) (s : State) : (putBeats ws s).collecting = s.collecting := rfl
@[simp] theorem putBeats_cur (ws : List Word) (s : State) : (putBeats ws s).cur = s.cur := rfl
@[simp] theorem putBeats_saved (ws : List Word) (s : State) : (putBeats ws s).saved = s.saved := rfl
@[simp] theorem putBeats_candValid (ws : List Word) (s : State) : (putBeats ws s).candValid = s.candValid := rfl
@[simp] theorem putBeats_candPos (ws : List Word) (s : State) : (putBeats ws s).candPos = s.candPos := rfl
@[simp] theorem putBeats_candD2 (ws : List Word) (s : State) : (putBeats ws s).candD2 = s.candD2 := rfl
@[simp] theorem putBeats_candE (ws : List Word) (s : State) : (putBeats ws s).candE = s.candE := rfl
@[simp] theorem putBeats_bitbuf (ws : List Word) (s : State) : (putBeats ws s).bitbuf = s.bitbuf := rfl
@[simp] theorem putBeats_need (ws : List Word) (s : State) : (putBeats ws s).need = s.need := rfl
@[simp] theorem putBeats_lenVal (ws : List Word) (s : State) : (putBeats ws s).lenVal = s.lenVal := rfl
@[simp] theorem putBeats_rxf (ws : List Word) (s : State) : (putBeats ws s).rxf = s.rxf := rfl
@[simp] theorem putBeats_csHist (ws : List Word) (s : State) : (putBeats ws s).csHist = s.csHist := rfl
@[simp] theorem putBeats_csSum (ws : List Word) (s : State) : (putBeats ws s).csSum = s.csSum := rfl
@[simp] theorem putBeats_badFrames (ws : List Word) (s : State) : (putBeats ws s).badFrames = s.badFrames := rfl
@[simp] theorem putBeats_sampleOut (ws : List Word) (s : State) : (putBeats ws s).sampleOut = s.sampleOut := rfl
@[simp] theorem putBeats_ports (ws : List Word) (s : State) : (putBeats ws s).ports = { s.ports with cmdOut := s.ports.cmdOut ++ ws } := rfl

@[simp] theorem putSample_prm (y : Sample) (s : State) : (putSample y s).prm = s.prm := rfl
@[simp] theorem putSample_en (y : Sample) (s : State) : (putSample y s).en = s.en := rfl
@[simp] theorem putSample_fault (y : Sample) (s : State) : (putSample y s).fault = s.fault := rfl
@[simp] theorem putSample_busy (y : Sample) (s : State) : (putSample y s).busy = s.busy := rfl
@[simp] theorem putSample_collision (y : Sample) (s : State) : (putSample y s).collision = s.collision := rfl
@[simp] theorem putSample_faultCode (y : Sample) (s : State) : (putSample y s).faultCode = s.faultCode := rfl
@[simp] theorem putSample_cfg (y : Sample) (s : State) : (putSample y s).cfg = s.cfg := rfl
@[simp] theorem putSample_tbl (y : Sample) (s : State) : (putSample y s).tbl = s.tbl := rfl
@[simp] theorem putSample_energy (y : Sample) (s : State) : (putSample y s).energy = s.energy := rfl
@[simp] theorem putSample_txq (y : Sample) (s : State) : (putSample y s).txq = s.txq := rfl
@[simp] theorem putSample_rxBase (y : Sample) (s : State) : (putSample y s).rxBase = s.rxBase := rfl
@[simp] theorem putSample_rx (y : Sample) (s : State) : (putSample y s).rx = s.rx := rfl
@[simp] theorem putSample_st (y : Sample) (s : State) : (putSample y s).st = s.st := rfl
@[simp] theorem putSample_collecting (y : Sample) (s : State) : (putSample y s).collecting = s.collecting := rfl
@[simp] theorem putSample_cur (y : Sample) (s : State) : (putSample y s).cur = s.cur := rfl
@[simp] theorem putSample_saved (y : Sample) (s : State) : (putSample y s).saved = s.saved := rfl
@[simp] theorem putSample_candValid (y : Sample) (s : State) : (putSample y s).candValid = s.candValid := rfl
@[simp] theorem putSample_candPos (y : Sample) (s : State) : (putSample y s).candPos = s.candPos := rfl
@[simp] theorem putSample_candD2 (y : Sample) (s : State) : (putSample y s).candD2 = s.candD2 := rfl
@[simp] theorem putSample_candE (y : Sample) (s : State) : (putSample y s).candE = s.candE := rfl
@[simp] theorem putSample_bitbuf (y : Sample) (s : State) : (putSample y s).bitbuf = s.bitbuf := rfl
@[simp] theorem putSample_need (y : Sample) (s : State) : (putSample y s).need = s.need := rfl
@[simp] theorem putSample_lenVal (y : Sample) (s : State) : (putSample y s).lenVal = s.lenVal := rfl
@[simp] theorem putSample_rxf (y : Sample) (s : State) : (putSample y s).rxf = s.rxf := rfl
@[simp] theorem putSample_csHist (y : Sample) (s : State) : (putSample y s).csHist = s.csHist := rfl
@[simp] theorem putSample_csSum (y : Sample) (s : State) : (putSample y s).csSum = s.csSum := rfl
@[simp] theorem putSample_badFrames (y : Sample) (s : State) : (putSample y s).badFrames = s.badFrames := rfl
@[simp] theorem putSample_sampleOut (y : Sample) (s : State) : (putSample y s).sampleOut = y := rfl
@[simp] theorem putSample_ports (y : Sample) (s : State) : (putSample y s).ports = { s.ports with smpOut := s.ports.smpOut ++ [y] } := rfl

@[simp] theorem setInput_prm (inp : List PortIn) (s : State) : (setInput inp s).prm = s.prm := rfl
@[simp] theorem setInput_en (inp : List PortIn) (s : State) : (setInput inp s).en = s.en := rfl
@[simp] theorem setInput_fault (inp : List PortIn) (s : State) : (setInput inp s).fault = s.fault := rfl
@[simp] theorem setInput_busy (inp : List PortIn) (s : State) : (setInput inp s).busy = s.busy := rfl
@[simp] theorem setInput_collision (inp : List PortIn) (s : State) : (setInput inp s).collision = s.collision := rfl
@[simp] theorem setInput_faultCode (inp : List PortIn) (s : State) : (setInput inp s).faultCode = s.faultCode := rfl
@[simp] theorem setInput_cfg (inp : List PortIn) (s : State) : (setInput inp s).cfg = s.cfg := rfl
@[simp] theorem setInput_tbl (inp : List PortIn) (s : State) : (setInput inp s).tbl = s.tbl := rfl
@[simp] theorem setInput_energy (inp : List PortIn) (s : State) : (setInput inp s).energy = s.energy := rfl
@[simp] theorem setInput_txq (inp : List PortIn) (s : State) : (setInput inp s).txq = s.txq := rfl
@[simp] theorem setInput_rxBase (inp : List PortIn) (s : State) : (setInput inp s).rxBase = s.rxBase := rfl
@[simp] theorem setInput_rx (inp : List PortIn) (s : State) : (setInput inp s).rx = s.rx := rfl
@[simp] theorem setInput_st (inp : List PortIn) (s : State) : (setInput inp s).st = s.st := rfl
@[simp] theorem setInput_collecting (inp : List PortIn) (s : State) : (setInput inp s).collecting = s.collecting := rfl
@[simp] theorem setInput_cur (inp : List PortIn) (s : State) : (setInput inp s).cur = s.cur := rfl
@[simp] theorem setInput_saved (inp : List PortIn) (s : State) : (setInput inp s).saved = s.saved := rfl
@[simp] theorem setInput_candValid (inp : List PortIn) (s : State) : (setInput inp s).candValid = s.candValid := rfl
@[simp] theorem setInput_candPos (inp : List PortIn) (s : State) : (setInput inp s).candPos = s.candPos := rfl
@[simp] theorem setInput_candD2 (inp : List PortIn) (s : State) : (setInput inp s).candD2 = s.candD2 := rfl
@[simp] theorem setInput_candE (inp : List PortIn) (s : State) : (setInput inp s).candE = s.candE := rfl
@[simp] theorem setInput_bitbuf (inp : List PortIn) (s : State) : (setInput inp s).bitbuf = s.bitbuf := rfl
@[simp] theorem setInput_need (inp : List PortIn) (s : State) : (setInput inp s).need = s.need := rfl
@[simp] theorem setInput_lenVal (inp : List PortIn) (s : State) : (setInput inp s).lenVal = s.lenVal := rfl
@[simp] theorem setInput_rxf (inp : List PortIn) (s : State) : (setInput inp s).rxf = s.rxf := rfl
@[simp] theorem setInput_csHist (inp : List PortIn) (s : State) : (setInput inp s).csHist = s.csHist := rfl
@[simp] theorem setInput_csSum (inp : List PortIn) (s : State) : (setInput inp s).csSum = s.csSum := rfl
@[simp] theorem setInput_badFrames (inp : List PortIn) (s : State) : (setInput inp s).badFrames = s.badFrames := rfl
@[simp] theorem setInput_sampleOut (inp : List PortIn) (s : State) : (setInput inp s).sampleOut = s.sampleOut := rfl
@[simp] theorem setInput_ports (inp : List PortIn) (s : State) : (setInput inp s).ports = { s.ports with inp := inp } := rfl

@[simp] theorem rxPush_prm (v : Sample) (s : State) : (rxPush v s).prm = s.prm := rfl
@[simp] theorem rxPush_en (v : Sample) (s : State) : (rxPush v s).en = s.en := rfl
@[simp] theorem rxPush_fault (v : Sample) (s : State) : (rxPush v s).fault = s.fault := rfl
@[simp] theorem rxPush_busy (v : Sample) (s : State) : (rxPush v s).busy = s.busy := rfl
@[simp] theorem rxPush_collision (v : Sample) (s : State) : (rxPush v s).collision = s.collision := rfl
@[simp] theorem rxPush_faultCode (v : Sample) (s : State) : (rxPush v s).faultCode = s.faultCode := rfl
@[simp] theorem rxPush_cfg (v : Sample) (s : State) : (rxPush v s).cfg = s.cfg := rfl
@[simp] theorem rxPush_tbl (v : Sample) (s : State) : (rxPush v s).tbl = s.tbl := rfl
@[simp] theorem rxPush_energy (v : Sample) (s : State) : (rxPush v s).energy = s.energy := rfl
@[simp] theorem rxPush_txq (v : Sample) (s : State) : (rxPush v s).txq = s.txq := rfl
@[simp] theorem rxPush_rxBase (v : Sample) (s : State) : (rxPush v s).rxBase = s.rxBase := rfl
@[simp] theorem rxPush_rx (v : Sample) (s : State) : (rxPush v s).rx = s.rx ++ [v] := rfl
@[simp] theorem rxPush_st (v : Sample) (s : State) : (rxPush v s).st = s.st := rfl
@[simp] theorem rxPush_collecting (v : Sample) (s : State) : (rxPush v s).collecting = s.collecting := rfl
@[simp] theorem rxPush_cur (v : Sample) (s : State) : (rxPush v s).cur = s.cur := rfl
@[simp] theorem rxPush_saved (v : Sample) (s : State) : (rxPush v s).saved = s.saved := rfl
@[simp] theorem rxPush_candValid (v : Sample) (s : State) : (rxPush v s).candValid = s.candValid := rfl
@[simp] theorem rxPush_candPos (v : Sample) (s : State) : (rxPush v s).candPos = s.candPos := rfl
@[simp] theorem rxPush_candD2 (v : Sample) (s : State) : (rxPush v s).candD2 = s.candD2 := rfl
@[simp] theorem rxPush_candE (v : Sample) (s : State) : (rxPush v s).candE = s.candE := rfl
@[simp] theorem rxPush_bitbuf (v : Sample) (s : State) : (rxPush v s).bitbuf = s.bitbuf := rfl
@[simp] theorem rxPush_need (v : Sample) (s : State) : (rxPush v s).need = s.need := rfl
@[simp] theorem rxPush_lenVal (v : Sample) (s : State) : (rxPush v s).lenVal = s.lenVal := rfl
@[simp] theorem rxPush_rxf (v : Sample) (s : State) : (rxPush v s).rxf = s.rxf := rfl
@[simp] theorem rxPush_csHist (v : Sample) (s : State) : (rxPush v s).csHist = s.csHist := rfl
@[simp] theorem rxPush_csSum (v : Sample) (s : State) : (rxPush v s).csSum = s.csSum := rfl
@[simp] theorem rxPush_badFrames (v : Sample) (s : State) : (rxPush v s).badFrames = s.badFrames := rfl
@[simp] theorem rxPush_sampleOut (v : Sample) (s : State) : (rxPush v s).sampleOut = s.sampleOut := rfl
@[simp] theorem rxPush_ports (v : Sample) (s : State) : (rxPush v s).ports = s.ports := rfl

@[simp] theorem rxDiscard_prm (k : Nat) (s : State) : (rxDiscard k s).prm = s.prm := rfl
@[simp] theorem rxDiscard_en (k : Nat) (s : State) : (rxDiscard k s).en = s.en := rfl
@[simp] theorem rxDiscard_fault (k : Nat) (s : State) : (rxDiscard k s).fault = s.fault := rfl
@[simp] theorem rxDiscard_busy (k : Nat) (s : State) : (rxDiscard k s).busy = s.busy := rfl
@[simp] theorem rxDiscard_collision (k : Nat) (s : State) : (rxDiscard k s).collision = s.collision := rfl
@[simp] theorem rxDiscard_faultCode (k : Nat) (s : State) : (rxDiscard k s).faultCode = s.faultCode := rfl
@[simp] theorem rxDiscard_cfg (k : Nat) (s : State) : (rxDiscard k s).cfg = s.cfg := rfl
@[simp] theorem rxDiscard_tbl (k : Nat) (s : State) : (rxDiscard k s).tbl = s.tbl := rfl
@[simp] theorem rxDiscard_energy (k : Nat) (s : State) : (rxDiscard k s).energy = s.energy := rfl
@[simp] theorem rxDiscard_txq (k : Nat) (s : State) : (rxDiscard k s).txq = s.txq := rfl
@[simp] theorem rxDiscard_rxBase (k : Nat) (s : State) : (rxDiscard k s).rxBase = k := rfl
@[simp] theorem rxDiscard_rx (k : Nat) (s : State) : (rxDiscard k s).rx = s.rx.drop (k - s.rxBase) := rfl
@[simp] theorem rxDiscard_st (k : Nat) (s : State) : (rxDiscard k s).st = s.st := rfl
@[simp] theorem rxDiscard_collecting (k : Nat) (s : State) : (rxDiscard k s).collecting = s.collecting := rfl
@[simp] theorem rxDiscard_cur (k : Nat) (s : State) : (rxDiscard k s).cur = s.cur := rfl
@[simp] theorem rxDiscard_saved (k : Nat) (s : State) : (rxDiscard k s).saved = s.saved := rfl
@[simp] theorem rxDiscard_candValid (k : Nat) (s : State) : (rxDiscard k s).candValid = s.candValid := rfl
@[simp] theorem rxDiscard_candPos (k : Nat) (s : State) : (rxDiscard k s).candPos = s.candPos := rfl
@[simp] theorem rxDiscard_candD2 (k : Nat) (s : State) : (rxDiscard k s).candD2 = s.candD2 := rfl
@[simp] theorem rxDiscard_candE (k : Nat) (s : State) : (rxDiscard k s).candE = s.candE := rfl
@[simp] theorem rxDiscard_bitbuf (k : Nat) (s : State) : (rxDiscard k s).bitbuf = s.bitbuf := rfl
@[simp] theorem rxDiscard_need (k : Nat) (s : State) : (rxDiscard k s).need = s.need := rfl
@[simp] theorem rxDiscard_lenVal (k : Nat) (s : State) : (rxDiscard k s).lenVal = s.lenVal := rfl
@[simp] theorem rxDiscard_rxf (k : Nat) (s : State) : (rxDiscard k s).rxf = s.rxf := rfl
@[simp] theorem rxDiscard_csHist (k : Nat) (s : State) : (rxDiscard k s).csHist = s.csHist := rfl
@[simp] theorem rxDiscard_csSum (k : Nat) (s : State) : (rxDiscard k s).csSum = s.csSum := rfl
@[simp] theorem rxDiscard_badFrames (k : Nat) (s : State) : (rxDiscard k s).badFrames = s.badFrames := rfl
@[simp] theorem rxDiscard_sampleOut (k : Nat) (s : State) : (rxDiscard k s).sampleOut = s.sampleOut := rfl
@[simp] theorem rxDiscard_ports (k : Nat) (s : State) : (rxDiscard k s).ports = s.ports := rfl

@[simp] theorem txqPush_prm (w : List Sample) (s : State) : (txqPush w s).prm = s.prm := rfl
@[simp] theorem txqPush_en (w : List Sample) (s : State) : (txqPush w s).en = s.en := rfl
@[simp] theorem txqPush_fault (w : List Sample) (s : State) : (txqPush w s).fault = s.fault := rfl
@[simp] theorem txqPush_busy (w : List Sample) (s : State) : (txqPush w s).busy = s.busy := rfl
@[simp] theorem txqPush_collision (w : List Sample) (s : State) : (txqPush w s).collision = s.collision := rfl
@[simp] theorem txqPush_faultCode (w : List Sample) (s : State) : (txqPush w s).faultCode = s.faultCode := rfl
@[simp] theorem txqPush_cfg (w : List Sample) (s : State) : (txqPush w s).cfg = s.cfg := rfl
@[simp] theorem txqPush_tbl (w : List Sample) (s : State) : (txqPush w s).tbl = s.tbl := rfl
@[simp] theorem txqPush_energy (w : List Sample) (s : State) : (txqPush w s).energy = s.energy := rfl
@[simp] theorem txqPush_txq (w : List Sample) (s : State) : (txqPush w s).txq = s.txq ++ w := rfl
@[simp] theorem txqPush_rxBase (w : List Sample) (s : State) : (txqPush w s).rxBase = s.rxBase := rfl
@[simp] theorem txqPush_rx (w : List Sample) (s : State) : (txqPush w s).rx = s.rx := rfl
@[simp] theorem txqPush_st (w : List Sample) (s : State) : (txqPush w s).st = s.st := rfl
@[simp] theorem txqPush_collecting (w : List Sample) (s : State) : (txqPush w s).collecting = s.collecting := rfl
@[simp] theorem txqPush_cur (w : List Sample) (s : State) : (txqPush w s).cur = s.cur := rfl
@[simp] theorem txqPush_saved (w : List Sample) (s : State) : (txqPush w s).saved = s.saved := rfl
@[simp] theorem txqPush_candValid (w : List Sample) (s : State) : (txqPush w s).candValid = s.candValid := rfl
@[simp] theorem txqPush_candPos (w : List Sample) (s : State) : (txqPush w s).candPos = s.candPos := rfl
@[simp] theorem txqPush_candD2 (w : List Sample) (s : State) : (txqPush w s).candD2 = s.candD2 := rfl
@[simp] theorem txqPush_candE (w : List Sample) (s : State) : (txqPush w s).candE = s.candE := rfl
@[simp] theorem txqPush_bitbuf (w : List Sample) (s : State) : (txqPush w s).bitbuf = s.bitbuf := rfl
@[simp] theorem txqPush_need (w : List Sample) (s : State) : (txqPush w s).need = s.need := rfl
@[simp] theorem txqPush_lenVal (w : List Sample) (s : State) : (txqPush w s).lenVal = s.lenVal := rfl
@[simp] theorem txqPush_rxf (w : List Sample) (s : State) : (txqPush w s).rxf = s.rxf := rfl
@[simp] theorem txqPush_csHist (w : List Sample) (s : State) : (txqPush w s).csHist = s.csHist := rfl
@[simp] theorem txqPush_csSum (w : List Sample) (s : State) : (txqPush w s).csSum = s.csSum := rfl
@[simp] theorem txqPush_badFrames (w : List Sample) (s : State) : (txqPush w s).badFrames = s.badFrames := rfl
@[simp] theorem txqPush_sampleOut (w : List Sample) (s : State) : (txqPush w s).sampleOut = s.sampleOut := rfl
@[simp] theorem txqPush_ports (w : List Sample) (s : State) : (txqPush w s).ports = s.ports := rfl

@[simp] theorem txqPop_prm (s : State) : (txqPop s).prm = s.prm := rfl
@[simp] theorem txqPop_en (s : State) : (txqPop s).en = s.en := rfl
@[simp] theorem txqPop_fault (s : State) : (txqPop s).fault = s.fault := rfl
@[simp] theorem txqPop_busy (s : State) : (txqPop s).busy = s.busy := rfl
@[simp] theorem txqPop_collision (s : State) : (txqPop s).collision = s.collision := rfl
@[simp] theorem txqPop_faultCode (s : State) : (txqPop s).faultCode = s.faultCode := rfl
@[simp] theorem txqPop_cfg (s : State) : (txqPop s).cfg = s.cfg := rfl
@[simp] theorem txqPop_tbl (s : State) : (txqPop s).tbl = s.tbl := rfl
@[simp] theorem txqPop_energy (s : State) : (txqPop s).energy = s.energy := rfl
@[simp] theorem txqPop_txq (s : State) : (txqPop s).txq = s.txq.tail := rfl
@[simp] theorem txqPop_rxBase (s : State) : (txqPop s).rxBase = s.rxBase := rfl
@[simp] theorem txqPop_rx (s : State) : (txqPop s).rx = s.rx := rfl
@[simp] theorem txqPop_st (s : State) : (txqPop s).st = s.st := rfl
@[simp] theorem txqPop_collecting (s : State) : (txqPop s).collecting = s.collecting := rfl
@[simp] theorem txqPop_cur (s : State) : (txqPop s).cur = s.cur := rfl
@[simp] theorem txqPop_saved (s : State) : (txqPop s).saved = s.saved := rfl
@[simp] theorem txqPop_candValid (s : State) : (txqPop s).candValid = s.candValid := rfl
@[simp] theorem txqPop_candPos (s : State) : (txqPop s).candPos = s.candPos := rfl
@[simp] theorem txqPop_candD2 (s : State) : (txqPop s).candD2 = s.candD2 := rfl
@[simp] theorem txqPop_candE (s : State) : (txqPop s).candE = s.candE := rfl
@[simp] theorem txqPop_bitbuf (s : State) : (txqPop s).bitbuf = s.bitbuf := rfl
@[simp] theorem txqPop_need (s : State) : (txqPop s).need = s.need := rfl
@[simp] theorem txqPop_lenVal (s : State) : (txqPop s).lenVal = s.lenVal := rfl
@[simp] theorem txqPop_rxf (s : State) : (txqPop s).rxf = s.rxf := rfl
@[simp] theorem txqPop_csHist (s : State) : (txqPop s).csHist = s.csHist := rfl
@[simp] theorem txqPop_csSum (s : State) : (txqPop s).csSum = s.csSum := rfl
@[simp] theorem txqPop_badFrames (s : State) : (txqPop s).badFrames = s.badFrames := rfl
@[simp] theorem txqPop_sampleOut (s : State) : (txqPop s).sampleOut = s.sampleOut := rfl
@[simp] theorem txqPop_ports (s : State) : (txqPop s).ports = s.ports := rfl

@[simp] theorem txqClear_prm (s : State) : (txqClear s).prm = s.prm := rfl
@[simp] theorem txqClear_en (s : State) : (txqClear s).en = s.en := rfl
@[simp] theorem txqClear_fault (s : State) : (txqClear s).fault = s.fault := rfl
@[simp] theorem txqClear_busy (s : State) : (txqClear s).busy = s.busy := rfl
@[simp] theorem txqClear_collision (s : State) : (txqClear s).collision = s.collision := rfl
@[simp] theorem txqClear_faultCode (s : State) : (txqClear s).faultCode = s.faultCode := rfl
@[simp] theorem txqClear_cfg (s : State) : (txqClear s).cfg = s.cfg := rfl
@[simp] theorem txqClear_tbl (s : State) : (txqClear s).tbl = s.tbl := rfl
@[simp] theorem txqClear_energy (s : State) : (txqClear s).energy = s.energy := rfl
@[simp] theorem txqClear_txq (s : State) : (txqClear s).txq = [] := rfl
@[simp] theorem txqClear_rxBase (s : State) : (txqClear s).rxBase = s.rxBase := rfl
@[simp] theorem txqClear_rx (s : State) : (txqClear s).rx = s.rx := rfl
@[simp] theorem txqClear_st (s : State) : (txqClear s).st = s.st := rfl
@[simp] theorem txqClear_collecting (s : State) : (txqClear s).collecting = s.collecting := rfl
@[simp] theorem txqClear_cur (s : State) : (txqClear s).cur = s.cur := rfl
@[simp] theorem txqClear_saved (s : State) : (txqClear s).saved = s.saved := rfl
@[simp] theorem txqClear_candValid (s : State) : (txqClear s).candValid = s.candValid := rfl
@[simp] theorem txqClear_candPos (s : State) : (txqClear s).candPos = s.candPos := rfl
@[simp] theorem txqClear_candD2 (s : State) : (txqClear s).candD2 = s.candD2 := rfl
@[simp] theorem txqClear_candE (s : State) : (txqClear s).candE = s.candE := rfl
@[simp] theorem txqClear_bitbuf (s : State) : (txqClear s).bitbuf = s.bitbuf := rfl
@[simp] theorem txqClear_need (s : State) : (txqClear s).need = s.need := rfl
@[simp] theorem txqClear_lenVal (s : State) : (txqClear s).lenVal = s.lenVal := rfl
@[simp] theorem txqClear_rxf (s : State) : (txqClear s).rxf = s.rxf := rfl
@[simp] theorem txqClear_csHist (s : State) : (txqClear s).csHist = s.csHist := rfl
@[simp] theorem txqClear_csSum (s : State) : (txqClear s).csSum = s.csSum := rfl
@[simp] theorem txqClear_badFrames (s : State) : (txqClear s).badFrames = s.badFrames := rfl
@[simp] theorem txqClear_sampleOut (s : State) : (txqClear s).sampleOut = s.sampleOut := rfl
@[simp] theorem txqClear_ports (s : State) : (txqClear s).ports = s.ports := rfl

@[simp] theorem rxfPush_prm (f : Frame) (s : State) : (rxfPush f s).prm = s.prm := rfl
@[simp] theorem rxfPush_en (f : Frame) (s : State) : (rxfPush f s).en = s.en := rfl
@[simp] theorem rxfPush_fault (f : Frame) (s : State) : (rxfPush f s).fault = s.fault := rfl
@[simp] theorem rxfPush_busy (f : Frame) (s : State) : (rxfPush f s).busy = s.busy := rfl
@[simp] theorem rxfPush_collision (f : Frame) (s : State) : (rxfPush f s).collision = s.collision := rfl
@[simp] theorem rxfPush_faultCode (f : Frame) (s : State) : (rxfPush f s).faultCode = s.faultCode := rfl
@[simp] theorem rxfPush_cfg (f : Frame) (s : State) : (rxfPush f s).cfg = s.cfg := rfl
@[simp] theorem rxfPush_tbl (f : Frame) (s : State) : (rxfPush f s).tbl = s.tbl := rfl
@[simp] theorem rxfPush_energy (f : Frame) (s : State) : (rxfPush f s).energy = s.energy := rfl
@[simp] theorem rxfPush_txq (f : Frame) (s : State) : (rxfPush f s).txq = s.txq := rfl
@[simp] theorem rxfPush_rxBase (f : Frame) (s : State) : (rxfPush f s).rxBase = s.rxBase := rfl
@[simp] theorem rxfPush_rx (f : Frame) (s : State) : (rxfPush f s).rx = s.rx := rfl
@[simp] theorem rxfPush_st (f : Frame) (s : State) : (rxfPush f s).st = s.st := rfl
@[simp] theorem rxfPush_collecting (f : Frame) (s : State) : (rxfPush f s).collecting = s.collecting := rfl
@[simp] theorem rxfPush_cur (f : Frame) (s : State) : (rxfPush f s).cur = s.cur := rfl
@[simp] theorem rxfPush_saved (f : Frame) (s : State) : (rxfPush f s).saved = s.saved := rfl
@[simp] theorem rxfPush_candValid (f : Frame) (s : State) : (rxfPush f s).candValid = s.candValid := rfl
@[simp] theorem rxfPush_candPos (f : Frame) (s : State) : (rxfPush f s).candPos = s.candPos := rfl
@[simp] theorem rxfPush_candD2 (f : Frame) (s : State) : (rxfPush f s).candD2 = s.candD2 := rfl
@[simp] theorem rxfPush_candE (f : Frame) (s : State) : (rxfPush f s).candE = s.candE := rfl
@[simp] theorem rxfPush_bitbuf (f : Frame) (s : State) : (rxfPush f s).bitbuf = s.bitbuf := rfl
@[simp] theorem rxfPush_need (f : Frame) (s : State) : (rxfPush f s).need = s.need := rfl
@[simp] theorem rxfPush_lenVal (f : Frame) (s : State) : (rxfPush f s).lenVal = s.lenVal := rfl
@[simp] theorem rxfPush_rxf (f : Frame) (s : State) : (rxfPush f s).rxf = s.rxf ++ [f] := rfl
@[simp] theorem rxfPush_csHist (f : Frame) (s : State) : (rxfPush f s).csHist = s.csHist := rfl
@[simp] theorem rxfPush_csSum (f : Frame) (s : State) : (rxfPush f s).csSum = s.csSum := rfl
@[simp] theorem rxfPush_badFrames (f : Frame) (s : State) : (rxfPush f s).badFrames = s.badFrames := rfl
@[simp] theorem rxfPush_sampleOut (f : Frame) (s : State) : (rxfPush f s).sampleOut = s.sampleOut := rfl
@[simp] theorem rxfPush_ports (f : Frame) (s : State) : (rxfPush f s).ports = s.ports := rfl

@[simp] theorem rxfPop_prm (s : State) : (rxfPop s).prm = s.prm := rfl
@[simp] theorem rxfPop_en (s : State) : (rxfPop s).en = s.en := rfl
@[simp] theorem rxfPop_fault (s : State) : (rxfPop s).fault = s.fault := rfl
@[simp] theorem rxfPop_busy (s : State) : (rxfPop s).busy = s.busy := rfl
@[simp] theorem rxfPop_collision (s : State) : (rxfPop s).collision = s.collision := rfl
@[simp] theorem rxfPop_faultCode (s : State) : (rxfPop s).faultCode = s.faultCode := rfl
@[simp] theorem rxfPop_cfg (s : State) : (rxfPop s).cfg = s.cfg := rfl
@[simp] theorem rxfPop_tbl (s : State) : (rxfPop s).tbl = s.tbl := rfl
@[simp] theorem rxfPop_energy (s : State) : (rxfPop s).energy = s.energy := rfl
@[simp] theorem rxfPop_txq (s : State) : (rxfPop s).txq = s.txq := rfl
@[simp] theorem rxfPop_rxBase (s : State) : (rxfPop s).rxBase = s.rxBase := rfl
@[simp] theorem rxfPop_rx (s : State) : (rxfPop s).rx = s.rx := rfl
@[simp] theorem rxfPop_st (s : State) : (rxfPop s).st = s.st := rfl
@[simp] theorem rxfPop_collecting (s : State) : (rxfPop s).collecting = s.collecting := rfl
@[simp] theorem rxfPop_cur (s : State) : (rxfPop s).cur = s.cur := rfl
@[simp] theorem rxfPop_saved (s : State) : (rxfPop s).saved = s.saved := rfl
@[simp] theorem rxfPop_candValid (s : State) : (rxfPop s).candValid = s.candValid := rfl
@[simp] theorem rxfPop_candPos (s : State) : (rxfPop s).candPos = s.candPos := rfl
@[simp] theorem rxfPop_candD2 (s : State) : (rxfPop s).candD2 = s.candD2 := rfl
@[simp] theorem rxfPop_candE (s : State) : (rxfPop s).candE = s.candE := rfl
@[simp] theorem rxfPop_bitbuf (s : State) : (rxfPop s).bitbuf = s.bitbuf := rfl
@[simp] theorem rxfPop_need (s : State) : (rxfPop s).need = s.need := rfl
@[simp] theorem rxfPop_lenVal (s : State) : (rxfPop s).lenVal = s.lenVal := rfl
@[simp] theorem rxfPop_rxf (s : State) : (rxfPop s).rxf = s.rxf.tail := rfl
@[simp] theorem rxfPop_csHist (s : State) : (rxfPop s).csHist = s.csHist := rfl
@[simp] theorem rxfPop_csSum (s : State) : (rxfPop s).csSum = s.csSum := rfl
@[simp] theorem rxfPop_badFrames (s : State) : (rxfPop s).badFrames = s.badFrames := rfl
@[simp] theorem rxfPop_sampleOut (s : State) : (rxfPop s).sampleOut = s.sampleOut := rfl
@[simp] theorem rxfPop_ports (s : State) : (rxfPop s).ports = s.ports := rfl

@[simp] theorem countBadFrame_prm (s : State) : (countBadFrame s).prm = s.prm := rfl
@[simp] theorem countBadFrame_en (s : State) : (countBadFrame s).en = s.en := rfl
@[simp] theorem countBadFrame_fault (s : State) : (countBadFrame s).fault = s.fault := rfl
@[simp] theorem countBadFrame_busy (s : State) : (countBadFrame s).busy = s.busy := rfl
@[simp] theorem countBadFrame_collision (s : State) : (countBadFrame s).collision = s.collision := rfl
@[simp] theorem countBadFrame_faultCode (s : State) : (countBadFrame s).faultCode = s.faultCode := rfl
@[simp] theorem countBadFrame_cfg (s : State) : (countBadFrame s).cfg = s.cfg := rfl
@[simp] theorem countBadFrame_tbl (s : State) : (countBadFrame s).tbl = s.tbl := rfl
@[simp] theorem countBadFrame_energy (s : State) : (countBadFrame s).energy = s.energy := rfl
@[simp] theorem countBadFrame_txq (s : State) : (countBadFrame s).txq = s.txq := rfl
@[simp] theorem countBadFrame_rxBase (s : State) : (countBadFrame s).rxBase = s.rxBase := rfl
@[simp] theorem countBadFrame_rx (s : State) : (countBadFrame s).rx = s.rx := rfl
@[simp] theorem countBadFrame_st (s : State) : (countBadFrame s).st = s.st := rfl
@[simp] theorem countBadFrame_collecting (s : State) : (countBadFrame s).collecting = s.collecting := rfl
@[simp] theorem countBadFrame_cur (s : State) : (countBadFrame s).cur = s.cur := rfl
@[simp] theorem countBadFrame_saved (s : State) : (countBadFrame s).saved = s.saved := rfl
@[simp] theorem countBadFrame_candValid (s : State) : (countBadFrame s).candValid = s.candValid := rfl
@[simp] theorem countBadFrame_candPos (s : State) : (countBadFrame s).candPos = s.candPos := rfl
@[simp] theorem countBadFrame_candD2 (s : State) : (countBadFrame s).candD2 = s.candD2 := rfl
@[simp] theorem countBadFrame_candE (s : State) : (countBadFrame s).candE = s.candE := rfl
@[simp] theorem countBadFrame_bitbuf (s : State) : (countBadFrame s).bitbuf = s.bitbuf := rfl
@[simp] theorem countBadFrame_need (s : State) : (countBadFrame s).need = s.need := rfl
@[simp] theorem countBadFrame_lenVal (s : State) : (countBadFrame s).lenVal = s.lenVal := rfl
@[simp] theorem countBadFrame_rxf (s : State) : (countBadFrame s).rxf = s.rxf := rfl
@[simp] theorem countBadFrame_csHist (s : State) : (countBadFrame s).csHist = s.csHist := rfl
@[simp] theorem countBadFrame_csSum (s : State) : (countBadFrame s).csSum = s.csSum := rfl
@[simp] theorem countBadFrame_badFrames (s : State) : (countBadFrame s).badFrames = (s.badFrames + 1) % 2 ^ s.prm.cntBits := rfl
@[simp] theorem countBadFrame_sampleOut (s : State) : (countBadFrame s).sampleOut = s.sampleOut := rfl
@[simp] theorem countBadFrame_ports (s : State) : (countBadFrame s).ports = s.ports := rfl

@[simp] theorem writeCfg_prm (idx v : Nat) (s : State) : (writeCfg idx v s).prm = s.prm := rfl
@[simp] theorem writeCfg_en (idx v : Nat) (s : State) : (writeCfg idx v s).en = s.en := rfl
@[simp] theorem writeCfg_fault (idx v : Nat) (s : State) : (writeCfg idx v s).fault = s.fault := rfl
@[simp] theorem writeCfg_busy (idx v : Nat) (s : State) : (writeCfg idx v s).busy = s.busy := rfl
@[simp] theorem writeCfg_collision (idx v : Nat) (s : State) : (writeCfg idx v s).collision = s.collision := rfl
@[simp] theorem writeCfg_faultCode (idx v : Nat) (s : State) : (writeCfg idx v s).faultCode = s.faultCode := rfl
@[simp] theorem writeCfg_cfg (idx v : Nat) (s : State) : (writeCfg idx v s).cfg = s.cfg.set idx v := rfl
@[simp] theorem writeCfg_tbl (idx v : Nat) (s : State) : (writeCfg idx v s).tbl = s.tbl := rfl
@[simp] theorem writeCfg_energy (idx v : Nat) (s : State) : (writeCfg idx v s).energy = s.energy := rfl
@[simp] theorem writeCfg_txq (idx v : Nat) (s : State) : (writeCfg idx v s).txq = s.txq := rfl
@[simp] theorem writeCfg_rxBase (idx v : Nat) (s : State) : (writeCfg idx v s).rxBase = s.rxBase := rfl
@[simp] theorem writeCfg_rx (idx v : Nat) (s : State) : (writeCfg idx v s).rx = s.rx := rfl
@[simp] theorem writeCfg_st (idx v : Nat) (s : State) : (writeCfg idx v s).st = s.st := rfl
@[simp] theorem writeCfg_collecting (idx v : Nat) (s : State) : (writeCfg idx v s).collecting = s.collecting := rfl
@[simp] theorem writeCfg_cur (idx v : Nat) (s : State) : (writeCfg idx v s).cur = s.cur := rfl
@[simp] theorem writeCfg_saved (idx v : Nat) (s : State) : (writeCfg idx v s).saved = s.saved := rfl
@[simp] theorem writeCfg_candValid (idx v : Nat) (s : State) : (writeCfg idx v s).candValid = s.candValid := rfl
@[simp] theorem writeCfg_candPos (idx v : Nat) (s : State) : (writeCfg idx v s).candPos = s.candPos := rfl
@[simp] theorem writeCfg_candD2 (idx v : Nat) (s : State) : (writeCfg idx v s).candD2 = s.candD2 := rfl
@[simp] theorem writeCfg_candE (idx v : Nat) (s : State) : (writeCfg idx v s).candE = s.candE := rfl
@[simp] theorem writeCfg_bitbuf (idx v : Nat) (s : State) : (writeCfg idx v s).bitbuf = s.bitbuf := rfl
@[simp] theorem writeCfg_need (idx v : Nat) (s : State) : (writeCfg idx v s).need = s.need := rfl
@[simp] theorem writeCfg_lenVal (idx v : Nat) (s : State) : (writeCfg idx v s).lenVal = s.lenVal := rfl
@[simp] theorem writeCfg_rxf (idx v : Nat) (s : State) : (writeCfg idx v s).rxf = s.rxf := rfl
@[simp] theorem writeCfg_csHist (idx v : Nat) (s : State) : (writeCfg idx v s).csHist = s.csHist := rfl
@[simp] theorem writeCfg_csSum (idx v : Nat) (s : State) : (writeCfg idx v s).csSum = s.csSum := rfl
@[simp] theorem writeCfg_badFrames (idx v : Nat) (s : State) : (writeCfg idx v s).badFrames = s.badFrames := rfl
@[simp] theorem writeCfg_sampleOut (idx v : Nat) (s : State) : (writeCfg idx v s).sampleOut = s.sampleOut := rfl
@[simp] theorem writeCfg_ports (idx v : Nat) (s : State) : (writeCfg idx v s).ports = s.ports := rfl

@[simp] theorem writeTbl_prm (sel addr : Nat) (v : Sample) (s : State) : (writeTbl sel addr v s).prm = s.prm := rfl
@[simp] theorem writeTbl_en (sel addr : Nat) (v : Sample) (s : State) : (writeTbl sel addr v s).en = s.en := rfl
@[simp] theorem writeTbl_fault (sel addr : Nat) (v : Sample) (s : State) : (writeTbl sel addr v s).fault = s.fault := rfl
@[simp] theorem writeTbl_busy (sel addr : Nat) (v : Sample) (s : State) : (writeTbl sel addr v s).busy = s.busy := rfl
@[simp] theorem writeTbl_collision (sel addr : Nat) (v : Sample) (s : State) : (writeTbl sel addr v s).collision = s.collision := rfl
@[simp] theorem writeTbl_faultCode (sel addr : Nat) (v : Sample) (s : State) : (writeTbl sel addr v s).faultCode = s.faultCode := rfl
@[simp] theorem writeTbl_cfg (sel addr : Nat) (v : Sample) (s : State) : (writeTbl sel addr v s).cfg = s.cfg := rfl
@[simp] theorem writeTbl_tbl (sel addr : Nat) (v : Sample) (s : State) : (writeTbl sel addr v s).tbl = Memory.write s.tbl (tblKey sel addr) v := rfl
@[simp] theorem writeTbl_energy (sel addr : Nat) (v : Sample) (s : State) : (writeTbl sel addr v s).energy = s.energy := rfl
@[simp] theorem writeTbl_txq (sel addr : Nat) (v : Sample) (s : State) : (writeTbl sel addr v s).txq = s.txq := rfl
@[simp] theorem writeTbl_rxBase (sel addr : Nat) (v : Sample) (s : State) : (writeTbl sel addr v s).rxBase = s.rxBase := rfl
@[simp] theorem writeTbl_rx (sel addr : Nat) (v : Sample) (s : State) : (writeTbl sel addr v s).rx = s.rx := rfl
@[simp] theorem writeTbl_st (sel addr : Nat) (v : Sample) (s : State) : (writeTbl sel addr v s).st = s.st := rfl
@[simp] theorem writeTbl_collecting (sel addr : Nat) (v : Sample) (s : State) : (writeTbl sel addr v s).collecting = s.collecting := rfl
@[simp] theorem writeTbl_cur (sel addr : Nat) (v : Sample) (s : State) : (writeTbl sel addr v s).cur = s.cur := rfl
@[simp] theorem writeTbl_saved (sel addr : Nat) (v : Sample) (s : State) : (writeTbl sel addr v s).saved = s.saved := rfl
@[simp] theorem writeTbl_candValid (sel addr : Nat) (v : Sample) (s : State) : (writeTbl sel addr v s).candValid = s.candValid := rfl
@[simp] theorem writeTbl_candPos (sel addr : Nat) (v : Sample) (s : State) : (writeTbl sel addr v s).candPos = s.candPos := rfl
@[simp] theorem writeTbl_candD2 (sel addr : Nat) (v : Sample) (s : State) : (writeTbl sel addr v s).candD2 = s.candD2 := rfl
@[simp] theorem writeTbl_candE (sel addr : Nat) (v : Sample) (s : State) : (writeTbl sel addr v s).candE = s.candE := rfl
@[simp] theorem writeTbl_bitbuf (sel addr : Nat) (v : Sample) (s : State) : (writeTbl sel addr v s).bitbuf = s.bitbuf := rfl
@[simp] theorem writeTbl_need (sel addr : Nat) (v : Sample) (s : State) : (writeTbl sel addr v s).need = s.need := rfl
@[simp] theorem writeTbl_lenVal (sel addr : Nat) (v : Sample) (s : State) : (writeTbl sel addr v s).lenVal = s.lenVal := rfl
@[simp] theorem writeTbl_rxf (sel addr : Nat) (v : Sample) (s : State) : (writeTbl sel addr v s).rxf = s.rxf := rfl
@[simp] theorem writeTbl_csHist (sel addr : Nat) (v : Sample) (s : State) : (writeTbl sel addr v s).csHist = s.csHist := rfl
@[simp] theorem writeTbl_csSum (sel addr : Nat) (v : Sample) (s : State) : (writeTbl sel addr v s).csSum = s.csSum := rfl
@[simp] theorem writeTbl_badFrames (sel addr : Nat) (v : Sample) (s : State) : (writeTbl sel addr v s).badFrames = s.badFrames := rfl
@[simp] theorem writeTbl_sampleOut (sel addr : Nat) (v : Sample) (s : State) : (writeTbl sel addr v s).sampleOut = s.sampleOut := rfl
@[simp] theorem writeTbl_ports (sel addr : Nat) (v : Sample) (s : State) : (writeTbl sel addr v s).ports = s.ports := rfl

@[simp] theorem enableBlock_prm (s : State) : (enableBlock s).prm = s.prm := rfl
@[simp] theorem enableBlock_en (s : State) : (enableBlock s).en = true := rfl
@[simp] theorem enableBlock_fault (s : State) : (enableBlock s).fault = s.fault := rfl
@[simp] theorem enableBlock_busy (s : State) : (enableBlock s).busy = s.busy := rfl
@[simp] theorem enableBlock_collision (s : State) : (enableBlock s).collision = s.collision := rfl
@[simp] theorem enableBlock_faultCode (s : State) : (enableBlock s).faultCode = s.faultCode := rfl
@[simp] theorem enableBlock_cfg (s : State) : (enableBlock s).cfg = s.cfg := rfl
@[simp] theorem enableBlock_tbl (s : State) : (enableBlock s).tbl = s.tbl := rfl
@[simp] theorem enableBlock_energy (s : State) : (enableBlock s).energy = s.energies := rfl
@[simp] theorem enableBlock_txq (s : State) : (enableBlock s).txq = s.txq := rfl
@[simp] theorem enableBlock_rxBase (s : State) : (enableBlock s).rxBase = s.rxBase := rfl
@[simp] theorem enableBlock_rx (s : State) : (enableBlock s).rx = s.rx := rfl
@[simp] theorem enableBlock_st (s : State) : (enableBlock s).st = s.st := rfl
@[simp] theorem enableBlock_collecting (s : State) : (enableBlock s).collecting = s.collecting := rfl
@[simp] theorem enableBlock_cur (s : State) : (enableBlock s).cur = s.cur := rfl
@[simp] theorem enableBlock_saved (s : State) : (enableBlock s).saved = s.saved := rfl
@[simp] theorem enableBlock_candValid (s : State) : (enableBlock s).candValid = s.candValid := rfl
@[simp] theorem enableBlock_candPos (s : State) : (enableBlock s).candPos = s.candPos := rfl
@[simp] theorem enableBlock_candD2 (s : State) : (enableBlock s).candD2 = s.candD2 := rfl
@[simp] theorem enableBlock_candE (s : State) : (enableBlock s).candE = s.candE := rfl
@[simp] theorem enableBlock_bitbuf (s : State) : (enableBlock s).bitbuf = s.bitbuf := rfl
@[simp] theorem enableBlock_need (s : State) : (enableBlock s).need = s.need := rfl
@[simp] theorem enableBlock_lenVal (s : State) : (enableBlock s).lenVal = s.lenVal := rfl
@[simp] theorem enableBlock_rxf (s : State) : (enableBlock s).rxf = s.rxf := rfl
@[simp] theorem enableBlock_csHist (s : State) : (enableBlock s).csHist = s.csHist := rfl
@[simp] theorem enableBlock_csSum (s : State) : (enableBlock s).csSum = s.csSum := rfl
@[simp] theorem enableBlock_badFrames (s : State) : (enableBlock s).badFrames = s.badFrames := rfl
@[simp] theorem enableBlock_sampleOut (s : State) : (enableBlock s).sampleOut = s.sampleOut := rfl
@[simp] theorem enableBlock_ports (s : State) : (enableBlock s).ports = s.ports := rfl

@[simp] theorem carrierSense_prm (x : Sample) (s : State) : (carrierSense x s).prm = s.prm := rfl
@[simp] theorem carrierSense_en (x : Sample) (s : State) : (carrierSense x s).en = s.en := rfl
@[simp] theorem carrierSense_fault (x : Sample) (s : State) : (carrierSense x s).fault = s.fault := rfl
@[simp] theorem carrierSense_busy (x : Sample) (s : State) : (carrierSense x s).busy = above (s.csNext x) s.cfg.thBusy := rfl
@[simp] theorem carrierSense_collision (x : Sample) (s : State) : (carrierSense x s).collision = above (s.csNext x) s.cfg.thColl := rfl
@[simp] theorem carrierSense_faultCode (x : Sample) (s : State) : (carrierSense x s).faultCode = s.faultCode := rfl
@[simp] theorem carrierSense_cfg (x : Sample) (s : State) : (carrierSense x s).cfg = s.cfg := rfl
@[simp] theorem carrierSense_tbl (x : Sample) (s : State) : (carrierSense x s).tbl = s.tbl := rfl
@[simp] theorem carrierSense_energy (x : Sample) (s : State) : (carrierSense x s).energy = s.energy := rfl
@[simp] theorem carrierSense_txq (x : Sample) (s : State) : (carrierSense x s).txq = s.txq := rfl
@[simp] theorem carrierSense_rxBase (x : Sample) (s : State) : (carrierSense x s).rxBase = s.rxBase := rfl
@[simp] theorem carrierSense_rx (x : Sample) (s : State) : (carrierSense x s).rx = s.rx := rfl
@[simp] theorem carrierSense_st (x : Sample) (s : State) : (carrierSense x s).st = s.st := rfl
@[simp] theorem carrierSense_collecting (x : Sample) (s : State) : (carrierSense x s).collecting = s.collecting := rfl
@[simp] theorem carrierSense_cur (x : Sample) (s : State) : (carrierSense x s).cur = s.cur := rfl
@[simp] theorem carrierSense_saved (x : Sample) (s : State) : (carrierSense x s).saved = s.saved := rfl
@[simp] theorem carrierSense_candValid (x : Sample) (s : State) : (carrierSense x s).candValid = s.candValid := rfl
@[simp] theorem carrierSense_candPos (x : Sample) (s : State) : (carrierSense x s).candPos = s.candPos := rfl
@[simp] theorem carrierSense_candD2 (x : Sample) (s : State) : (carrierSense x s).candD2 = s.candD2 := rfl
@[simp] theorem carrierSense_candE (x : Sample) (s : State) : (carrierSense x s).candE = s.candE := rfl
@[simp] theorem carrierSense_bitbuf (x : Sample) (s : State) : (carrierSense x s).bitbuf = s.bitbuf := rfl
@[simp] theorem carrierSense_need (x : Sample) (s : State) : (carrierSense x s).need = s.need := rfl
@[simp] theorem carrierSense_lenVal (x : Sample) (s : State) : (carrierSense x s).lenVal = s.lenVal := rfl
@[simp] theorem carrierSense_rxf (x : Sample) (s : State) : (carrierSense x s).rxf = s.rxf := rfl
@[simp] theorem carrierSense_csHist (x : Sample) (s : State) : (carrierSense x s).csHist = x :: (s.csHist.take (s.cfg.csWin - 1) ++ s.csHist.drop s.cfg.csWin) := rfl
@[simp] theorem carrierSense_csSum (x : Sample) (s : State) : (carrierSense x s).csSum = s.csNext x := rfl
@[simp] theorem carrierSense_badFrames (x : Sample) (s : State) : (carrierSense x s).badFrames = s.badFrames := rfl
@[simp] theorem carrierSense_sampleOut (x : Sample) (s : State) : (carrierSense x s).sampleOut = s.sampleOut := rfl
@[simp] theorem carrierSense_ports (x : Sample) (s : State) : (carrierSense x s).ports = s.ports := rfl

@[simp] theorem takeCandidate_prm (w : Nat) (s : State) : (takeCandidate w s).prm = s.prm := rfl
@[simp] theorem takeCandidate_en (w : Nat) (s : State) : (takeCandidate w s).en = s.en := rfl
@[simp] theorem takeCandidate_fault (w : Nat) (s : State) : (takeCandidate w s).fault = s.fault := rfl
@[simp] theorem takeCandidate_busy (w : Nat) (s : State) : (takeCandidate w s).busy = s.busy := rfl
@[simp] theorem takeCandidate_collision (w : Nat) (s : State) : (takeCandidate w s).collision = s.collision := rfl
@[simp] theorem takeCandidate_faultCode (w : Nat) (s : State) : (takeCandidate w s).faultCode = s.faultCode := rfl
@[simp] theorem takeCandidate_cfg (w : Nat) (s : State) : (takeCandidate w s).cfg = s.cfg := rfl
@[simp] theorem takeCandidate_tbl (w : Nat) (s : State) : (takeCandidate w s).tbl = s.tbl := rfl
@[simp] theorem takeCandidate_energy (w : Nat) (s : State) : (takeCandidate w s).energy = s.energy := rfl
@[simp] theorem takeCandidate_txq (w : Nat) (s : State) : (takeCandidate w s).txq = s.txq := rfl
@[simp] theorem takeCandidate_rxBase (w : Nat) (s : State) : (takeCandidate w s).rxBase = s.rxBase := rfl
@[simp] theorem takeCandidate_rx (w : Nat) (s : State) : (takeCandidate w s).rx = s.rx := rfl
@[simp] theorem takeCandidate_st (w : Nat) (s : State) : (takeCandidate w s).st = s.st := rfl
@[simp] theorem takeCandidate_collecting (w : Nat) (s : State) : (takeCandidate w s).collecting = s.collecting := rfl
@[simp] theorem takeCandidate_cur (w : Nat) (s : State) : (takeCandidate w s).cur = s.cur := rfl
@[simp] theorem takeCandidate_saved (w : Nat) (s : State) : (takeCandidate w s).saved = s.saved := rfl
@[simp] theorem takeCandidate_candValid (w : Nat) (s : State) : (takeCandidate w s).candValid = true := rfl
@[simp] theorem takeCandidate_candPos (w : Nat) (s : State) : (takeCandidate w s).candPos = w := rfl
@[simp] theorem takeCandidate_candD2 (w : Nat) (s : State) : (takeCandidate w s).candD2 = s.windowD2 w := rfl
@[simp] theorem takeCandidate_candE (w : Nat) (s : State) : (takeCandidate w s).candE = s.windowEnergy w := rfl
@[simp] theorem takeCandidate_bitbuf (w : Nat) (s : State) : (takeCandidate w s).bitbuf = s.bitbuf := rfl
@[simp] theorem takeCandidate_need (w : Nat) (s : State) : (takeCandidate w s).need = s.need := rfl
@[simp] theorem takeCandidate_lenVal (w : Nat) (s : State) : (takeCandidate w s).lenVal = s.lenVal := rfl
@[simp] theorem takeCandidate_rxf (w : Nat) (s : State) : (takeCandidate w s).rxf = s.rxf := rfl
@[simp] theorem takeCandidate_csHist (w : Nat) (s : State) : (takeCandidate w s).csHist = s.csHist := rfl
@[simp] theorem takeCandidate_csSum (w : Nat) (s : State) : (takeCandidate w s).csSum = s.csSum := rfl
@[simp] theorem takeCandidate_badFrames (w : Nat) (s : State) : (takeCandidate w s).badFrames = s.badFrames := rfl
@[simp] theorem takeCandidate_sampleOut (w : Nat) (s : State) : (takeCandidate w s).sampleOut = s.sampleOut := rfl
@[simp] theorem takeCandidate_ports (w : Nat) (s : State) : (takeCandidate w s).ports = s.ports := rfl

@[simp] theorem confirm_prm (s : State) : (confirm s).prm = s.prm := rfl
@[simp] theorem confirm_en (s : State) : (confirm s).en = s.en := rfl
@[simp] theorem confirm_fault (s : State) : (confirm s).fault = s.fault := rfl
@[simp] theorem confirm_busy (s : State) : (confirm s).busy = s.busy := rfl
@[simp] theorem confirm_collision (s : State) : (confirm s).collision = s.collision := rfl
@[simp] theorem confirm_faultCode (s : State) : (confirm s).faultCode = s.faultCode := rfl
@[simp] theorem confirm_cfg (s : State) : (confirm s).cfg = s.cfg := rfl
@[simp] theorem confirm_tbl (s : State) : (confirm s).tbl = s.tbl := rfl
@[simp] theorem confirm_energy (s : State) : (confirm s).energy = s.energy := rfl
@[simp] theorem confirm_txq (s : State) : (confirm s).txq = s.txq := rfl
@[simp] theorem confirm_rxBase (s : State) : (confirm s).rxBase = s.candPos + s.cfg.preLen := rfl
@[simp] theorem confirm_rx (s : State) : (confirm s).rx = s.rx.drop (s.candPos + s.cfg.preLen - s.rxBase) := rfl
@[simp] theorem confirm_st (s : State) : (confirm s).st = .getLength := rfl
@[simp] theorem confirm_collecting (s : State) : (confirm s).collecting = true := rfl
@[simp] theorem confirm_cur (s : State) : (confirm s).cur = s.candPos + s.cfg.preLen := rfl
@[simp] theorem confirm_saved (s : State) : (confirm s).saved = s.candPos + s.cfg.preLen := rfl
@[simp] theorem confirm_candValid (s : State) : (confirm s).candValid = false := rfl
@[simp] theorem confirm_candPos (s : State) : (confirm s).candPos = 0 := rfl
@[simp] theorem confirm_candD2 (s : State) : (confirm s).candD2 = 0 := rfl
@[simp] theorem confirm_candE (s : State) : (confirm s).candE = 0 := rfl
@[simp] theorem confirm_bitbuf (s : State) : (confirm s).bitbuf = [] := rfl
@[simp] theorem confirm_need (s : State) : (confirm s).need = s.cfg.lenBits := rfl
@[simp] theorem confirm_lenVal (s : State) : (confirm s).lenVal = s.lenVal := rfl
@[simp] theorem confirm_rxf (s : State) : (confirm s).rxf = s.rxf := rfl
@[simp] theorem confirm_csHist (s : State) : (confirm s).csHist = s.csHist := rfl
@[simp] theorem confirm_csSum (s : State) : (confirm s).csSum = s.csSum := rfl
@[simp] theorem confirm_badFrames (s : State) : (confirm s).badFrames = s.badFrames := rfl
@[simp] theorem confirm_sampleOut (s : State) : (confirm s).sampleOut = s.sampleOut := rfl
@[simp] theorem confirm_ports (s : State) : (confirm s).ports = s.ports := rfl

@[simp] theorem rejectLength_prm (s : State) : (rejectLength s).prm = s.prm := rfl
@[simp] theorem rejectLength_en (s : State) : (rejectLength s).en = s.en := rfl
@[simp] theorem rejectLength_fault (s : State) : (rejectLength s).fault = s.fault := rfl
@[simp] theorem rejectLength_busy (s : State) : (rejectLength s).busy = s.busy := rfl
@[simp] theorem rejectLength_collision (s : State) : (rejectLength s).collision = s.collision := rfl
@[simp] theorem rejectLength_faultCode (s : State) : (rejectLength s).faultCode = s.faultCode := rfl
@[simp] theorem rejectLength_cfg (s : State) : (rejectLength s).cfg = s.cfg := rfl
@[simp] theorem rejectLength_tbl (s : State) : (rejectLength s).tbl = s.tbl := rfl
@[simp] theorem rejectLength_energy (s : State) : (rejectLength s).energy = s.energy := rfl
@[simp] theorem rejectLength_txq (s : State) : (rejectLength s).txq = s.txq := rfl
@[simp] theorem rejectLength_rxBase (s : State) : (rejectLength s).rxBase = s.rxBase := rfl
@[simp] theorem rejectLength_rx (s : State) : (rejectLength s).rx = s.rx := rfl
@[simp] theorem rejectLength_st (s : State) : (rejectLength s).st = .waitHeader := rfl
@[simp] theorem rejectLength_collecting (s : State) : (rejectLength s).collecting = s.collecting := rfl
@[simp] theorem rejectLength_cur (s : State) : (rejectLength s).cur = s.saved := rfl
@[simp] theorem rejectLength_saved (s : State) : (rejectLength s).saved = s.saved := rfl
@[simp] theorem rejectLength_candValid (s : State) : (rejectLength s).candValid = false := rfl
@[simp] theorem rejectLength_candPos (s : State) : (rejectLength s).candPos = s.candPos := rfl
@[simp] theorem rejectLength_candD2 (s : State) : (rejectLength s).candD2 = s.candD2 := rfl
@[simp] theorem rejectLength_candE (s : State) : (rejectLength s).candE = s.candE := rfl
@[simp] theorem rejectLength_bitbuf (s : State) : (rejectLength s).bitbuf = [] := rfl
@[simp] theorem rejectLength_need (s : State) : (rejectLength s).need = s.need := rfl
@[simp] theorem rejectLength_lenVal (s : State) : (rejectLength s).lenVal = s.lenVal := rfl
@[simp] theorem rejectLength_rxf (s : State) : (rejectLength s).rxf = s.rxf := rfl
@[simp] theorem rejectLength_csHist (s : State) : (rejectLength s).csHist = s.csHist := rfl
@[simp] theorem rejectLength_csSum (s : State) : (rejectLength s).csSum = s.csSum := rfl
@[simp] theorem rejectLength_badFrames (s : State) : (rejectLength s).badFrames = (s.badFrames + 1) % 2 ^ s.prm.cntBits := rfl
@[simp] theorem rejectLength_sampleOut (s : State) : (rejectLength s).sampleOut = s.sampleOut := rfl
@[simp] theorem rejectLength_ports (s : State) : (rejectLength s).ports = s.ports := rfl

@[simp] theorem acceptLength_prm (v : Nat) (s : State) : (acceptLength v s).prm = s.prm := rfl
@[simp] theorem acceptLength_en (v : Nat) (s : State) : (acceptLength v s).en = s.en := rfl
@[simp] theorem acceptLength_fault (v : Nat) (s : State) : (acceptLength v s).fault = s.fault := rfl
@[simp] theorem acceptLength_busy (v : Nat) (s : State) : (acceptLength v s).busy = s.busy := rfl
@[simp] theorem acceptLength_collision (v : Nat) (s : State) : (acceptLength v s).collision = s.collision := rfl
@[simp] theorem acceptLength_faultCode (v : Nat) (s : State) : (acceptLength v s).faultCode = s.faultCode := rfl
@[simp] theorem acceptLength_cfg (v : Nat) (s : State) : (acceptLength v s).cfg = s.cfg := rfl
@[simp] theorem acceptLength_tbl (v : Nat) (s : State) : (acceptLength v s).tbl = s.tbl := rfl
@[simp] theorem acceptLength_energy (v : Nat) (s : State) : (acceptLength v s).energy = s.energy := rfl
@[simp] theorem acceptLength_txq (v : Nat) (s : State) : (acceptLength v s).txq = s.txq := rfl
@[simp] theorem acceptLength_rxBase (v : Nat) (s : State) : (acceptLength v s).rxBase = s.cur := rfl
@[simp] theorem acceptLength_rx (v : Nat) (s : State) : (acceptLength v s).rx = s.rx.drop (s.cur - s.rxBase) := rfl
@[simp] theorem acceptLength_st (v : Nat) (s : State) : (acceptLength v s).st = s.st := rfl
@[simp] theorem acceptLength_collecting (v : Nat) (s : State) : (acceptLength v s).collecting = true := rfl
@[simp] theorem acceptLength_cur (v : Nat) (s : State) : (acceptLength v s).cur = s.cur := rfl
@[simp] theorem acceptLength_saved (v : Nat) (s : State) : (acceptLength v s).saved = s.saved := rfl
@[simp] theorem acceptLength_candValid (v : Nat) (s : State) : (acceptLength v s).candValid = s.candValid := rfl
@[simp] theorem acceptLength_candPos (v : Nat) (s : State) : (acceptLength v s).candPos = s.candPos := rfl
@[simp] theorem acceptLength_candD2 (v : Nat) (s : State) : (acceptLength v s).candD2 = s.candD2 := rfl
@[simp] theorem acceptLength_candE (v : Nat) (s : State) : (acceptLength v s).candE = s.candE := rfl
@[simp] theorem acceptLength_bitbuf (v : Nat) (s : State) : (acceptLength v s).bitbuf = [] := rfl
@[simp] theorem acceptLength_need (v : Nat) (s : State) : (acceptLength v s).need = v := rfl
@[simp] theorem acceptLength_lenVal (v : Nat) (s : State) : (acceptLength v s).lenVal = v := rfl
@[simp] theorem acceptLength_rxf (v : Nat) (s : State) : (acceptLength v s).rxf = s.rxf := rfl
@[simp] theorem acceptLength_csHist (v : Nat) (s : State) : (acceptLength v s).csHist = s.csHist := rfl
@[simp] theorem acceptLength_csSum (v : Nat) (s : State) : (acceptLength v s).csSum = s.csSum := rfl
@[simp] theorem acceptLength_badFrames (v : Nat) (s : State) : (acceptLength v s).badFrames = s.badFrames := rfl
@[simp] theorem acceptLength_sampleOut (v : Nat) (s : State) : (acceptLength v s).sampleOut = s.sampleOut := rfl
@[simp] theorem acceptLength_ports (v : Nat) (s : State) : (acceptLength v s).ports = s.ports := rfl

@[simp] theorem softReset_prm (s : State) : (softReset s).prm = s.prm := rfl
@[simp] theorem softReset_ports (s : State) : (softReset s).ports = s.ports := rfl
@[simp] theorem softReset_en (s : State) : (softReset s).en = false := rfl
@[simp] theorem softReset_fault (s : State) : (softReset s).fault = false := rfl
@[simp] theorem resetOf_prm (p : Params) : (State.resetOf p).prm = p := rfl
@[simp] theorem resetOf_en (p : Params) : (State.resetOf p).en = false := rfl
@[simp] theorem resetOf_fault (p : Params) : (State.resetOf p).fault = false := rfl
@[simp] theorem resetOf_ports (p : Params) : (State.resetOf p).ports = Ports.empty := rfl

end Sys2Proof.Laws
end

