-- ==== Sys2Proof/Laws/Sync.lean ====
section
/-! SUPPORT. What a step of RXSYNC can do, and how a fact about steps becomes one about a closure (R170, R190). -/

namespace Sys2Proof.Laws

open Sys2Proof.Machine

/-- Whether RXSYNC may step at all (R190). -/
theorem selects_iff (s : State) (sel : BitVec 3) :
    s.selects sel = true ↔ s.en = true ∧ s.fault = false ∧ s.selector = sel := by
  simp [State.selects, and_assoc]

/-- The guards of `SCAN` and `COLLECT`. -/
theorem present_iff (s : State) (n : Nat) : s.present n = true ↔ s.rxBase ≤ s.cur ∧ s.cur + n ≤ s.rxWr := by
  simp [State.present]

/-- Everything one step of RXSYNC can do: the transition table of R170, its steps named. -/
theorem rxStep_cases {s t : State} (h : rxStep s = some t) :
    s.en = true ∧ s.fault = false ∧
    ((s.st = .waitHeader ∧ s.collecting = false ∧ s.rxBase ≤ s.cur ∧ s.cur + s.cfg.preLen ≤ s.rxWr ∧ t = scanEffect s) ∨
     (s.st = .getLength ∧ s.collecting = true ∧ s.rxBase ≤ s.cur ∧ s.cur + s.cfg.sym ≤ s.rxWr ∧
        t = collectEffect .getLength s) ∨
     (s.st = .getPayload ∧ s.collecting = true ∧ s.rxBase ≤ s.cur ∧ s.cur + s.cfg.sym ≤ s.rxWr ∧
        t = collectEffect .getPayload s) ∨
     (s.st = .getPayload ∧ s.collecting = false ∧ t = interpretEffect s) ∨
     (s.st = .checkPayload ∧ s.collecting = false ∧ s.rxf.length < s.prm.rxfCap ∧ t = checkEffect s)) := by
  unfold rxStep at h
  split at h <;>
    simp_all [scanStep, collectStep, interpretStep, checkStep, selects_iff, present_iff]

/-- A property that every step of RXSYNC keeps is kept by any number of them. -/
theorem closureLoop_keeps {I : State → Prop} (hI : ∀ s t, I s → rxStep s = some t → I t) (n : Nat) (s : State)
    (h : I s) : I (closureLoop n s) := by
  induction n generalizing s with
  | zero => exact h
  | succ n ih =>
    simp only [closureLoop]
    cases e : rxStep s with
    | none => exact h
    | some t => exact ih t (hI s t h e)

/-- A property that every step of RXSYNC keeps is kept by the closure. -/
theorem rxClosure_keeps {I : State → Prop} (hI : ∀ s t, I s → rxStep s = some t → I t) (s : State) (h : I s) :
    I (rxClosure s) := closureLoop_keeps hI _ s h

/-- Where no step is enabled the closure does nothing. -/
theorem rxClosure_of_none {s : State} (h : rxStep s = none) : rxClosure s = s := by
  unfold rxClosure closureFuel
  generalize (s.rx.length + 2) * (2 * s.rx.length + 4) = n
  cases n <;> simp [closureLoop, h]

/-- The end of a `SCAN` step: confirmation or a discard. -/
theorem settleScan_cases (s : State) : settleScan s = confirm s ∨ ∃ k, settleScan s = rxDiscard k s := by
  unfold settleScan
  split
  · exact .inl rfl
  · exact .inr ⟨_, rfl⟩

end Sys2Proof.Laws
end

