-- ==== Sys2Proof/Laws/Exec.lean ====
section
/-! SUPPORT. What each operation can answer: one inversion lemma per operation, to be cited instead of unfolding it. -/

namespace Sys2Proof.Laws

open Sys2Proof.Machine

variable {s t : State}

/-- A host command that the fault state makes void. -/
theorem unlessFaulted_cases (s u : State) :
    (s.fault = true ∧ unlessFaulted s u = s) ∨ (s.fault = false ∧ unlessFaulted s u = u) := by
  unfold unlessFaulted; cases s.fault <;> simp

/-- An illegal command word. -/
theorem illegalCommand_cases (s : State) :
    (s.fault = true ∧ illegalCommand s = s) ∨ (s.fault = false ∧ illegalCommand s = raiseFault .illegalCmd s) := by
  unfold illegalCommand; cases s.fault <;> simp

theorem execNop_cases (h : exec .nop s = .next t) : t = s := by cases h; rfl

theorem execSreset_cases (h : exec .sreset s = .next t) : t = softReset s := by cases h; rfl

theorem execEnable_cases (h : exec .enable s = .next t) :
    (s.fault = true ∧ t = s) ∨
    (s.fault = false ∧ s.en = true ∧ t = raiseFault .cfgLocked s) ∨
    (s.fault = false ∧ s.en = false ∧ s.wfConfig = false ∧ t = raiseFault .cfgInvalid s) ∨
    (s.fault = false ∧ s.en = false ∧ s.wfConfig = true ∧ t = enableBlock s) := by
  cases h
  cases hf : s.fault <;> cases he : s.en <;> cases hw : s.wfConfig <;> simp [unlessFaulted, hf]

theorem execCfgWr_cases {idx : BitVec 8} {value : List Word} (h : exec (.cfgWr idx value) s = .next t) :
    (s.fault = true ∧ t = s) ∨
    (s.fault = false ∧ cfgValueOk s.prm idx.toNat value = false ∧ t = raiseFault .badValue s) ∨
    (s.fault = false ∧ cfgValueOk s.prm idx.toNat value = true ∧ 0x0C < idx.toNat ∧ t = raiseFault .badIndex s) ∨
    (s.fault = false ∧ cfgValueOk s.prm idx.toNat value = true ∧ idx.toNat ≤ 0x0C ∧ s.en = true ∧
      t = raiseFault .cfgLocked s) ∨
    (s.fault = false ∧ cfgValueOk s.prm idx.toNat value = true ∧ idx.toNat ≤ 0x0C ∧ s.en = false ∧
      t = writeCfg idx.toNat (beatValue value) s) := by
  cases h
  by_cases hi : 0x0C < idx.toNat <;> cases hf : s.fault <;> cases he : s.en <;>
    cases hw : cfgValueOk s.prm idx.toNat value <;> simp [unlessFaulted, hf, hi] <;> omega

theorem execCfgRd_cases {idx : BitVec 8} (h : exec (.cfgRd idx) s = .next t) :
    (∃ width, s.prm.regWidth idx.toNat = some width ∧ t = putBeats (valueOut width (s.regValue idx.toNat)) s) ∨
    (s.prm.regWidth idx.toNat = none ∧ s.fault = true ∧ t = s) ∨
    (s.prm.regWidth idx.toNat = none ∧ s.fault = false ∧ t = raiseFault .badIndex s) := by
  cases h
  cases hw : s.prm.regWidth idx.toNat <;> cases hf : s.fault <;> simp [unlessFaulted, hf]

theorem execTblWr_cases {sel : BitVec 8} {addr : BitVec 16} {w : Word} (h : exec (.tblWr sel addr w) s = .next t) :
    (s.fault = true ∧ t = s) ∨
    (s.fault = false ∧ sampleIn s.prm w = none ∧ t = raiseFault .badValue s) ∨
    (∃ v, sampleIn s.prm w = some v ∧ s.fault = false ∧
      ((s.prm.tblMapped sel.toNat addr.toNat = false ∧ t = raiseFault .badIndex s) ∨
       (s.prm.tblMapped sel.toNat addr.toNat = true ∧ s.en = true ∧ t = raiseFault .cfgLocked s) ∨
       (s.prm.tblMapped sel.toNat addr.toNat = true ∧ s.en = false ∧ t = writeTbl sel.toNat addr.toNat v s))) := by
  cases h
  cases hf : s.fault <;> cases hv : sampleIn s.prm w <;> cases hm : s.prm.tblMapped sel.toNat addr.toNat <;>
    cases he : s.en <;> simp [unlessFaulted, hf]

theorem execTblRd_cases {sel : BitVec 8} {addr : BitVec 16} (h : exec (.tblRd sel addr) s = .next t) :
    (s.prm.tblMapped sel.toNat addr.toNat = true ∧ t = putBeats (tblBeats (s.tblEntry sel.toNat addr.toNat)) s) ∨
    (s.prm.tblMapped sel.toNat addr.toNat = false ∧ s.fault = true ∧ t = s) ∨
    (s.prm.tblMapped sel.toNat addr.toNat = false ∧ s.fault = false ∧ t = raiseFault .badIndex s) := by
  cases h
  cases hm : s.prm.tblMapped sel.toNat addr.toNat <;> cases hf : s.fault <;> simp [unlessFaulted, hf]

theorem execCrcAppend_cases {n : BitVec 16} {bits : List Word} (h : exec (.crcAppend n bits) s = .next t) :
    (s.fault = true ∧ t = s) ∨
    (s.fault = false ∧ bitsIn n.toNat bits = none ∧ t = raiseFault .badValue s) ∨
    (∃ b, bitsIn n.toNat bits = some b ∧ s.fault = false ∧ t = putBeats (pack (crcAppend b)) s) := by
  cases h
  cases hf : s.fault <;> cases hb : bitsIn n.toNat bits <;> simp [unlessFaulted, hf]

theorem execCrcCheck_cases {n : BitVec 16} {bits : List Word} (h : exec (.crcCheck n bits) s = .next t) :
    (s.fault = true ∧ t = s) ∨
    (s.fault = false ∧ bitsIn n.toNat bits = none ∧ t = raiseFault .badValue s) ∨
    (∃ b, bitsIn n.toNat bits = some b ∧ s.fault = false ∧ t = putBeats [flagBeat (crcCheck b)] s) := by
  cases h
  cases hf : s.fault <;> cases hb : bitsIn n.toNat bits <;> simp [unlessFaulted, hf]

/-- The checks of `MODULATE` and its effect (R157). -/
theorem modulateFrame_cases (hdr pay : Bits) (s : State) :
    (∃ k, k ∈ [FaultKind.notEnabled, .lenLimit, .lenShort, .lenWidth, .txqOvf] ∧
      modulateFrame hdr pay s = raiseFault k s) ∨
    (s.en = true ∧ s.prm.ovh + pay.length ≤ s.cfg.lenMax ∧ s.cfg.lenMin ≤ s.prm.ovh + pay.length ∧
      s.prm.ovh + pay.length < 2 ^ s.cfg.lenBits ∧ s.txq.length + (s.waveform hdr pay).length ≤ s.prm.txqCap ∧
      modulateFrame hdr pay s = txqPush (s.waveform hdr pay) s) := by
  unfold modulateFrame
  split
  · exact .inl ⟨_, by simp, rfl⟩
  split
  · exact .inl ⟨_, by simp, rfl⟩
  split
  · exact .inl ⟨_, by simp, rfl⟩
  split
  · exact .inl ⟨_, by simp, rfl⟩
  split
  · exact .inl ⟨_, by simp, rfl⟩
  · exact .inr ⟨by simp_all, by omega, by omega, by omega, by omega, rfl⟩

theorem execModulate_cases {n : BitVec 16} {header payload : List Word}
    (h : exec (.modulate n header payload) s = .next t) :
    (s.fault = true ∧ t = s) ∨
    (s.fault = false ∧ (bitsIn s.prm.hdrBits header = none ∨ bitsIn n.toNat payload = none) ∧
      t = raiseFault .badValue s) ∨
    (∃ hdr pay, bitsIn s.prm.hdrBits header = some hdr ∧ bitsIn n.toNat payload = some pay ∧ s.fault = false ∧
      t = modulateFrame hdr pay s) := by
  cases h
  cases hf : s.fault <;> cases hh : bitsIn s.prm.hdrBits header <;> cases hb : bitsIn n.toNat payload <;>
    simp [unlessFaulted, hf]

theorem execTxAbort_cases (h : exec .txAbort s = .next t) :
    (s.fault = true ∧ t = s) ∨ (s.fault = false ∧ t = txqClear s) := by
  cases h
  exact unlessFaulted_cases s (txqClear s)

theorem execRxPop_cases (h : exec .rxPop s = .next t) :
    (s.fault = true ∧ t = s) ∨
    (s.fault = false ∧ t = rxClosure (putBeats (popBeats s.prm s.rxf.head?) (rxfPop s))) := by
  cases h
  exact unlessFaulted_cases s _

theorem execTick_cases {x : Sample} (h : exec (.tick x) s = .next t) :
    ((s.en = false ∨ s.fault = true) ∧ t = putSample 0 s) ∨
    (s.en = true ∧ s.fault = false ∧ s.rx.length = s.prm.rxqCap ∧ t = putSample 0 (raiseFault .rxqOvf s)) ∨
    (s.en = true ∧ s.fault = false ∧ s.rx.length ≠ s.prm.rxqCap ∧ t = tickEffect x s) := by
  cases h
  by_cases hr : s.rx.length = s.prm.rxqCap <;> cases hf : s.fault <;> cases he : s.en <;>
    simp [State.rxFull, hr]

theorem execScan_cases (h : exec .scan s = .next t) :
    (scanStep s = none ∧ t = s) ∨ scanStep s = some t := by
  cases h
  cases hs : scanStep s <;> simp [ifEnabled]

theorem execCollect_cases {phase : CollectPhase} (h : exec (.collect phase) s = .next t) :
    (collectStep phase s = none ∧ t = s) ∨ collectStep phase s = some t := by
  cases h
  cases hs : collectStep phase s <;> simp [ifEnabled]

theorem execInterpret_cases (h : exec .interpret s = .next t) :
    (interpretStep s = none ∧ t = s) ∨ interpretStep s = some t := by
  cases h
  cases hs : interpretStep s <;> simp [ifEnabled]

theorem execCheck_cases (h : exec .check s = .next t) :
    (checkStep s = none ∧ t = s) ∨ checkStep s = some t := by
  cases h
  cases hs : checkStep s <;> simp [ifEnabled]

/-- What one step of the machine does: nothing, an operation, an illegal word, or an empty turn of RXSYNC. -/
theorem step_cases (h : step s = .next t) :
    (fetch s.prm s.ports.inp = .idle ∧ t = s) ∨
    (∃ i rest, fetch s.prm s.ports.inp = .run i rest ∧ exec i (setInput rest s) = .next t) ∨
    (∃ rest, fetch s.prm s.ports.inp = .illegal rest ∧ t = illegalCommand (setInput rest s)) ∨
    (∃ rest, fetch s.prm s.ports.inp = .noStep rest ∧ t = setInput rest s) := by
  unfold step at h
  split at h
  · rename_i e; cases h; exact .inl ⟨e, rfl⟩
  · rename_i i rest e; exact .inr (.inl ⟨i, rest, e, h⟩)
  · rename_i rest e; cases h; exact .inr (.inr (.inl ⟨rest, e, rfl⟩))
  · rename_i rest e; cases h; exact .inr (.inr (.inr ⟨rest, e, rfl⟩))

end Sys2Proof.Laws
end

