-- ==== Sys2Proof/Laws/Memory.lean ====
section
/-! SUPPORT. The waveform table: reads after writes, and the canonical form (R34). -/

namespace Sys2Proof.Laws

open Sys2Proof.Machine

/-- What a read finds after a write: the value under its key, everything else as before. -/
theorem Memory_read_write (m : Memory) (k : Nat) (v : Sample) (j : Nat) :
    Memory.read (Memory.write m k v) j = if j = k then some v else Memory.read m j := by
  induction m with
  | nil => simp [Memory.write, Memory.read]
  | cons c m ih =>
    simp only [Memory.write]
    split
    · simp [Memory.read]
    · split <;> rename_i h1 h2
      · subst h2; simp only [Memory.read]; split <;> simp_all
      · simp only [Memory.read, ih]; split <;> split <;> simp_all

/-- Where the keys of a written table come from. -/
theorem Memory_mem_write {m : Memory} {k : Nat} {v : Sample} {c : Nat × Sample} (h : c ∈ Memory.write m k v) :
    c = (k, v) ∨ c ∈ m := by
  induction m with
  | nil => simpa [Memory.write] using h
  | cons d m ih =>
    simp only [Memory.write] at h
    split at h
    · simpa using h
    · split at h
      · simp at h ⊢; tauto
      · simp at h ⊢
        rcases h with h | h
        · exact .inr (.inl h)
        · rcases ih h with h | h <;> tauto

/-- A write keeps the canonical form. -/
theorem Memory_write_wf {m : Memory} (h : Memory.wf m) (k : Nat) (v : Sample) : Memory.wf (Memory.write m k v) := by
  induction m with
  | nil => simp [Memory.write, Memory.wf]
  | cons c m ih =>
    rw [Memory.wf, List.pairwise_cons] at h
    simp only [Memory.write]
    split
    · rename_i hk
      refine List.pairwise_cons.2 ⟨fun a ha => ?_, List.pairwise_cons.2 h⟩
      rcases List.mem_cons.1 ha with rfl | ha
      · exact hk
      · exact hk.trans (h.1 a ha)
    · split
      · rename_i hk; subst hk; exact List.pairwise_cons.2 h
      · refine List.pairwise_cons.2 ⟨fun a ha => ?_, ih h.2⟩
        rcases Memory_mem_write ha with rfl | ha
        · exact lt_of_le_of_ne (by omega) (by simpa using fun e => by omega)
        · exact h.1 a ha

/-- The table of the reset state has the canonical form. -/
theorem resetOf_tbl_wf (p : Params) : Memory.wf (State.resetOf p).tbl := List.Pairwise.nil

/-- Two mapped places with the same key are the same place. -/
theorem tblKey_inj {sel addr sel' addr' : Nat} (h : addr < 65536) (h' : addr' < 65536)
    (e : tblKey sel addr = tblKey sel' addr') : sel = sel' ∧ addr = addr' := by
  unfold tblKey at e; omega

end Sys2Proof.Laws
end

