-- ==== Sys2Proof/Laws/PerInstr.lean ====
section
/-! SUPPORT. A statement about every operation as syntax, one lemma per constructor: how many items its encoding offers
at the ports (R113). -/

namespace Sys2Proof.Laws

open Sys2Proof.Machine

/-- The operand words of an operation. -/
def operandWords : Instr → Nat
  | .nop => 0
  | .sreset => 0
  | .enable => 0
  | .cfgWr _ value => value.length
  | .cfgRd _ => 0
  | .tblWr _ _ _ => 1
  | .tblRd _ _ => 0
  | .crcAppend _ bits => bits.length
  | .crcCheck _ bits => bits.length
  | .modulate _ header payload => header.length + payload.length
  | .txAbort => 0
  | .rxPop => 0
  | .tick _ => 0
  | .scan => 0
  | .collect _ => 0
  | .interpret => 0
  | .check => 0

/-- The encoding of an operation is one item and its operand words. -/
def EncodeLength.Statement (i : Instr) : Prop := (encode i).length = 1 + operandWords i

theorem EncodeLength.nop : EncodeLength.Statement .nop := rfl
theorem EncodeLength.sreset : EncodeLength.Statement .sreset := rfl
theorem EncodeLength.enable : EncodeLength.Statement .enable := rfl
theorem EncodeLength.cfgWr (idx : BitVec 8) (value : List Word) : EncodeLength.Statement (.cfgWr idx value) := by
  simp [EncodeLength.Statement, encode, commandItems, operandWords, Nat.add_comm]
theorem EncodeLength.cfgRd (idx : BitVec 8) : EncodeLength.Statement (.cfgRd idx) := rfl
theorem EncodeLength.tblWr (sel : BitVec 8) (addr : BitVec 16) (sample : Word) :
    EncodeLength.Statement (.tblWr sel addr sample) := rfl
theorem EncodeLength.tblRd (sel : BitVec 8) (addr : BitVec 16) : EncodeLength.Statement (.tblRd sel addr) := rfl
theorem EncodeLength.crcAppend (n : BitVec 16) (bits : List Word) : EncodeLength.Statement (.crcAppend n bits) := by
  simp [EncodeLength.Statement, encode, commandItems, operandWords, Nat.add_comm]
theorem EncodeLength.crcCheck (n : BitVec 16) (bits : List Word) : EncodeLength.Statement (.crcCheck n bits) := by
  simp [EncodeLength.Statement, encode, commandItems, operandWords, Nat.add_comm]
theorem EncodeLength.modulate (n : BitVec 16) (header payload : List Word) :
    EncodeLength.Statement (.modulate n header payload) := by
  simp [EncodeLength.Statement, encode, commandItems, operandWords, Nat.add_comm]
theorem EncodeLength.txAbort : EncodeLength.Statement .txAbort := rfl
theorem EncodeLength.rxPop : EncodeLength.Statement .rxPop := rfl
theorem EncodeLength.tick (x : Sample) : EncodeLength.Statement (.tick x) := rfl
theorem EncodeLength.scan : EncodeLength.Statement .scan := rfl
theorem EncodeLength.collect (phase : CollectPhase) : EncodeLength.Statement (.collect phase) := rfl
theorem EncodeLength.interpret : EncodeLength.Statement .interpret := rfl
theorem EncodeLength.check : EncodeLength.Statement .check := rfl

end Sys2Proof.Laws
end

