-- ==== Sys2Proof/Tests/Slice0.lean ====
section
/-! SUPPORT. Small tests of the model on values taken from the spec, and one witness for the hypotheses of every
statement that has some. -/

namespace Sys2Proof.Tests

open Sys2Proof.Machine Sys2Proof.Claims

/-! Ill-formed operations are refused: one for each check of `Instr.wellFormed` (R113, R111). -/

theorem test_wf_refuses_cfg_wr_word_count : (Instr.cfgWr 0x0B [0, 1]).wellFormed Params.default = false := by decide
theorem test_wf_refuses_cfg_wr_unmapped_two_words : (Instr.cfgWr 0x0D [0, 1]).wellFormed Params.default = false := by
  decide
theorem test_wf_refuses_crc_append_words : (Instr.crcAppend 33 [0]).wellFormed Params.default = false := by decide
theorem test_wf_refuses_crc_check_words : (Instr.crcCheck 0 [0]).wellFormed Params.default = false := by decide
theorem test_wf_refuses_modulate_header : (Instr.modulate 0 [0, 0] []).wellFormed Params.default = false := by decide
theorem test_wf_refuses_modulate_payload : (Instr.modulate 32 [0] []).wellFormed Params.default = false := by decide
theorem test_wf_refuses_tick_range : (Instr.tick 32768).wellFormed Params.default = false := by decide

/-! Decoding: the words of spec/30_encoding.md (R102, R110) and spec/95_test_vectors.md, read by the decoder. -/

theorem test_decode_nop : decodeTableWord 32 0x00000000 = some .nop := by decide
theorem test_decode_sreset : decodeTableWord 32 0x01000000 = some .sreset := by decide
theorem test_decode_enable : decodeTableWord 32 0x02000000 = some .enable := by decide
/-- 0x10020000, 0x00000001: `CFG_WR CP_LEN, 1` (section 2 of 95). -/
theorem test_decode_cfg_wr :
    decode Params.default [.word 0x10020000, .word 1, .word 7] = .ok (.cfgWr 2 [1], [.word 7]) := by decide
/-- `TH_BUSY` takes three words (section 2 of 95). -/
theorem test_decode_cfg_wr_threshold :
    decode Params.default [.word 0x100B0000, .word 0, .word 0, .word 0x000F4240] =
      .ok (.cfgWr 0x0B [0, 0, 0x000F4240], []) := by decide
theorem test_decode_cfg_rd : decodeTableWord 32 0x11200000 = some (.cfgRd 0x20) := by decide
theorem test_decode_tbl_wr :
    decode Params.default [.word 0x12000003, .word 0xFFFFF830] = .ok (.tblWr 0 3 0xFFFFF830, []) := by decide
theorem test_decode_tbl_rd : decodeTableWord 32 0x13040001 = some (.tblRd 4 1) := by decide
theorem test_decode_crc_append :
    decode Params.default [.word 0x20000007, .word 0xB2000000] = .ok (.crcAppend 7 [0xB2000000], []) := by decide
theorem test_decode_crc_check :
    decode Params.default [.word 0x2100000F, .word 0xB2660000] = .ok (.crcCheck 15 [0xB2660000], []) := by decide
theorem test_decode_modulate :
    decode Params.default [.word 0x30000008, .word 0x35123480, .word 0xB2000000] =
      .ok (.modulate 8 [0x35123480] [0xB2000000], []) := by decide
theorem test_decode_tx_abort : decodeTableWord 32 0x31000000 = some .txAbort := by decide
theorem test_decode_rx_pop : decodeTableWord 32 0x40000000 = some .rxPop := by decide
/-- The pattern 0xF830 of sixteen input lines is the sample -2000 (R111). -/
theorem test_decode_tick : decodeTableWord 16 0xF830 = some (.tick (-2000)) := by decide
theorem test_decode_scan : decodeTableWord 8 0b000 = some .scan := by decide
theorem test_decode_collect_length : decodeTableWord 8 0b101 = some (.collect .getLength) := by decide
theorem test_decode_collect_payload : decodeTableWord 8 0b110 = some (.collect .getPayload) := by decide
theorem test_decode_interpret : decodeTableWord 8 0b010 = some .interpret := by decide
theorem test_decode_check : decodeTableWord 8 0b011 = some .check := by decide
/-- `NOP` with a must-be-zero bit set, and the unlisted opcode 0x03, are illegal (R103, R112). -/
theorem test_decode_rejects :
    decode Params.default [.word 0x00000001] = .error .nonZeroMbz ∧
      decode Params.default [.word 0x03000000] = .error .unlistedOpcode ∧
      decode Params.default [.sync 0b111] = .error .noStepSelected := by decide

/-! One step, on the configuration T1 of the instance I1 (section 2 of spec/95_test_vectors.md). -/

/-- The instance I1. -/
def i1 : Params := { Params.default with rxqCap := 64, txqCap := 400, rxfCap := 2 }

/-- The configuration registers of T1. -/
def cfgT1 : CfgRegs where
  nCar := 2
  symLen := 4
  cpLen := 1
  preLen := 8
  lenBits := 8
  lenMin := 48
  lenMax := 80
  syncKdot := 2
  syncKen := 1
  csWin := 4
  csPow := 2
  thBusy := 1000000
  thColl := 30000000

/-- One row of a table. -/
def tableRow (sel : Nat) (vs : List Sample) : Memory := vs.mapIdx fun i v => (tblKey sel i, v)

/-- The table of T1. -/
def tblT1 : Memory :=
  tableRow 0 [2000, 2000, 2000, -2000, -2000, 2000, -2000, 2000] ++ tableRow 1 [-1000, -1000, 1000, 1000] ++
    tableRow 2 [1000, 1000, -1000, -1000] ++ tableRow 3 [-1000, 1000, -1000, 1000] ++
    tableRow 4 [1000, -1000, 1000, -1000]

/-- I1 configured as T1, before `ENABLE`. -/
def t1 : State := { State.resetOf i1 with cfg := cfgT1, tbl := tblT1 }

/-- T1 enabled; the energies of section 2. -/
def t1On : State :=
  { t1 with en := true, energy := [32000000, 4000000, 4000000, 4000000, 4000000] ++ List.replicate 28 0 }

/-- Whether an operation takes a state to a next state with a property. -/
def takes (i : Instr) (s : State) (f : State → Bool) : Bool :=
  match exec i s with
  | .next t => f t
  | .fault _ => false
  | .refused _ => false

/-- Whether an operation raises a fault with this code and puts out no beat. -/
def faults (i : Instr) (s : State) (code : BitVec 8) : Bool :=
  takes i s fun t => t.fault && t.faultCode == code && t.ports.cmdOut == []

/-- Whether an operation puts out these beats and raises no fault. -/
def answers (i : Instr) (s : State) (ws : List Word) : Bool := takes i s fun t => t.ports.cmdOut == ws && !t.fault

theorem test_nop : exec .nop t1On = .next t1On := rfl
/-- R132 leaves the fault state. -/
theorem test_sreset : takes .sreset (raiseFault .rxqOvf t1On) (· == State.resetOf i1) = true := by decide +kernel
/-- Section 2: `ENABLE` on T1 computes the listed energies. -/
theorem test_enable : takes .enable t1 (· == t1On) = true := by decide +kernel
/-- R33: the reset configuration is not well-formed. -/
theorem test_enable_invalid : faults .enable (State.resetOf i1) 0x04 = true := by decide +kernel
theorem test_cfg_wr : takes (.cfgWr 2 [3]) t1 (· == { t1 with cfg := { cfgT1 with cpLen := 3 } }) = true := by
  decide +kernel
/-- 2^69 does not fit `TH_BUSY` (R31, R101). -/
theorem test_cfg_wr_bad_value : faults (.cfgWr 0x0B [0x20, 0, 0]) t1 0x06 = true := by decide +kernel
/-- R31: `SYNC_KDOT` is 2 after reset. -/
theorem test_cfg_rd_kdot : answers (.cfgRd 7) State.reset [2] = true := by decide +kernel
/-- `E[0] = 32000000`, in two words (section 2, R35). -/
theorem test_cfg_rd_energy : answers (.cfgRd 0x40) t1On [0, 0x01E84800] = true := by decide +kernel
/-- Row 33 does not exist at `N_MAX = 16` (R34). -/
theorem test_tbl_wr_unmapped : faults (.tblWr 0x21 0 0) t1 0x02 = true := by decide +kernel
theorem test_tbl_wr :
    takes (.tblWr 4 1 0x7D0) t1 (fun t => t.tblEntry 4 1 == some 2000 && t.tblEntry 4 0 == some 1000) = true := by
  decide +kernel
theorem test_tbl_rd : answers (.tblRd 4 1) t1On [1, 0xFFFFFC18] = true := by decide +kernel
theorem test_tbl_rd_unwritten : answers (.tblRd 0 0) State.reset [0, 0] = true := by decide +kernel
/-- Section 3.2. -/
theorem test_crc_append : answers (.crcAppend 7 [0xB2000000]) t1 [0xB2660000] = true := by decide +kernel
theorem test_crc_append_padding : faults (.crcAppend 7 [0xB3000000]) t1 0x06 = true := by decide +kernel
theorem test_crc_check : answers (.crcCheck 40 [0x35123480, 0xAF000000]) t1 [1] = true := by decide +kernel
theorem test_crc_check_flipped : answers (.crcCheck 40 [0x35123480, 0xAE000000]) t1 [0] = true := by decide +kernel
/-- Section 4.3: `w0` has 148 samples and begins with the preamble and the symbols A and D. -/
theorem test_modulate :
    takes (.modulate 0 [0xF1000740] []) t1On (fun t => t.txq.length == 148 && t.txq.take 18 ==
      [2000, 2000, 2000, -2000, -2000, 2000, -2000, 2000, 2000, -2000, 0, 0, 2000, -2000, 2000, 0, 0, -2000]) =
        true := by decide +kernel
theorem test_modulate_not_enabled : faults (.modulate 0 [0xF1000740] []) t1 0x05 = true := by decide +kernel
theorem test_tx_abort : takes .txAbort { t1On with txq := [1, 2] } (· == t1On) = true := by decide +kernel
/-- R108: the record of F0 pops as its status word and header. -/
theorem test_rx_pop :
    answers .rxPop { t1On with rxf := [{ dst := 15, src := 1, seq := 0, ack := 7, flags := 0x40, badData := false,
                                         route := false, payload := [] }] } [0x80000000, 0xF1000740] = true := by
  decide +kernel
theorem test_rx_pop_empty : answers .rxPop t1On [0] = true := by decide +kernel
/-- Section 6: the sum after the sample 300; the sample popped (R221). -/
theorem test_tick :
    takes (.tick 300) { t1On with txq := [7, 8] } (fun t => t.csSum == 90000 && t.sampleOut == 7 && t.txq == [8] &&
      t.rx == [300] && !t.busy) = true := by decide +kernel
theorem test_tick_overflow :
    faults (.tick 1) { t1On with rx := List.replicate 64 0, st := .checkPayload } 0x14 = true := by decide +kernel
/-- The preamble itself is a hit and becomes the candidate: `d2 = 32000000²`, `E_rx = 32000000` (R171, R172). -/
theorem test_scan :
    takes .scan { t1On with rx := [2000, 2000, 2000, -2000, -2000, 2000, -2000, 2000] } (fun t => t.candValid &&
      t.candPos == 0 && t.cur == 1 && t.candE == 32000000 && t.candD2 == 1024000000000000) = true := by decide +kernel
/-- Section 4.1: the symbol C carries the bits 1, 0 (R174, R175). -/
theorem test_collect :
    takes (.collect .getLength)
      { t1On with st := .getLength, collecting := true, need := 8, rx := [0, 0, 2000, -2000, 0] }
      (fun t => t.bitbuf == [true, false] && t.cur == 5 && t.st == .getLength) = true := by decide +kernel
/-- The length 48 is `LEN_MIN` and accepted (R179). -/
theorem test_interpret_accepts :
    takes .interpret { t1On with st := .getPayload, bitbuf := ubits 8 48, cur := 28, saved := 8, rxBase := 8 }
      (fun t => t.need == 48 && t.collecting && t.bitbuf == [] && t.rxBase == 28) = true := by decide +kernel
/-- The length 47 is rejected: back to the saved position (R179). -/
theorem test_interpret_rejects :
    takes .interpret { t1On with st := .getPayload, bitbuf := ubits 8 47, cur := 28, saved := 8, rxBase := 8 }
      (fun t => t.badFrames == 1 && t.cur == 8 && t.st == .waitHeader) = true := by decide +kernel
/-- The body of F8 as section 4.2 writes it. -/
def bodyF8 : Bits := ubits 56 0b00110101000100100011010010000000101011111011001001100110
/-- It gives the record of F8 (R181 to R183). -/
theorem test_check :
    takes .check { t1On with st := .checkPayload, lenVal := 56, bitbuf := bodyF8 } (fun t => t.rxf ==
      [{ dst := 3, src := 5, seq := 0x12, ack := 0x34, flags := 0x80, badData := false, route := true,
         payload := ubits 8 0b10110010 }]) = true := by decide +kernel
/-- With its bit 43 inverted the payload fails: a record without payload, marked (R182, section 5.4). -/
theorem test_check_bad_payload :
    takes .check { t1On with st := .checkPayload, lenVal := 56, bitbuf := flipBit bodyF8 43 } (fun t => t.rxf ==
      [{ dst := 3, src := 5, seq := 0x12, ack := 0x34, flags := 0x80, badData := true, route := false,
         payload := [] }]) = true := by decide +kernel

/-! Witnesses: concrete states and operands that meet the hypotheses of each statement, every clause of it. -/

/-- A small instance. -/
def tiny : Params where
  sw := 8
  dstBits := 1
  srcBits := 1
  seqBits := 1
  ackBits := 1
  flagBits := 3
  nMax := 1
  sMax := 2
  pMax := 2
  lMax := 8
  csWinMax := 2
  bitbufCap := 64
  rxqCap := 16
  txqCap := 100
  rxfCap := 1
  cntBits := 4

/-- One carrier of one sample, a preamble of two. -/
def tinyOff : State := { State.resetOf tiny with
  cfg := { nCar := 1, symLen := 1, cpLen := 0, preLen := 2, lenBits := 5, lenMin := 23, lenMax := 30, syncKdot := 2,
           syncKen := 1, csWin := 2, csPow := 2, thBusy := 3, thColl := 10 }
  tbl := [(0, 1), (1, 1), (65536, -1), (131072, 1)] }

/-- The same after `ENABLE`. -/
def tinyOn : State := { tinyOff with en := true, energy := [2, 1, 1] }

/-- A record of the small instance. -/
def tinyFrame : Frame where
  dst := 1
  src := 0
  seq := 1
  ack := 0
  flags := 5
  badData := false
  route := true
  payload := [true]

/-- A receiver in the length field, its ring one sample short of a symbol. -/
def tinyLength : State := { tinyOn with
  st := .getLength, collecting := true, need := 5, cur := 11, saved := 8, rxBase := 8, rx := [1, -1, 1]
  bitbuf := [true, false, true] }

/-- A receiver stalled on a full frame queue. -/
def tinyStalled : State := { tinyOn with
  st := .checkPayload, bitbuf := List.replicate 23 false, lenVal := 23, need := 23, cur := 4, rxBase := 4
  rx := List.replicate 15 1, rxf := [tinyFrame] }

theorem tinyOn_blockInv : BlockInv tinyOn where
  disabled := nofun
  enabled := fun _ => by decide +kernel
  ring := by decide
  waitHeader := fun _ _ => by decide
  getLength := nofun
  getPayload := nofun
  checkPayload := nofun
  candidate := nofun
  capacities := by decide

theorem tinyLength_blockInv : BlockInv tinyLength where
  disabled := nofun
  enabled := fun _ => by decide +kernel
  ring := by decide
  waitHeader := nofun
  getLength := fun _ => ⟨by decide, by decide, by decide, by decide, 3, by decide, by decide, by decide⟩
  getPayload := nofun
  checkPayload := nofun
  candidate := nofun
  capacities := by decide

theorem tinyStalled_blockInv : BlockInv tinyStalled where
  disabled := nofun
  enabled := fun _ => by decide +kernel
  ring := by decide
  waitHeader := nofun
  getLength := nofun
  getPayload := nofun
  checkPayload := fun _ => by decide
  candidate := nofun
  capacities := by decide

theorem tinyOn_storageInv : StorageInv tinyOn where
  params := by decide
  tableForm := by decide
  tableEntries := by
    intro c hc
    simp only [tinyOn, tinyOff, List.mem_cons, List.not_mem_nil, or_false] at hc
    rcases hc with rfl | rfl | rfl | rfl
    · exact ⟨by decide, 0, 0, by decide⟩
    · exact ⟨by decide, 0, 1, by decide⟩
    · exact ⟨by decide, 1, 0, by decide⟩
    · exact ⟨by decide, 2, 0, by decide⟩
  registerWidths := by
    intro idx w h
    interval_cases idx <;> intro e <;> cases e <;> decide
  faultRecord := rfl
  counterWidth := by decide

theorem tinyOn_carrierInv : CarrierInv tinyOn where
  delayLine := rfl
  disabled := nofun
  enabled := fun _ => by decide

theorem tinyOn_sampleInv : SampleInv tinyOn where
  transmit := by decide
  receive := by decide
  delayLine := by decide
  output := by decide

theorem tinyOn_decodable : Decodable tinyOn := by
  intro β hβ c hc
  obtain rfl : c = 0 := by have : c < 1 := hc; omega
  match β, hβ with
  | [true], _ => decide +kernel
  | [false], _ => decide +kernel

/-- The same state with one operation waiting at its ports. -/
def offered (i : Instr) (s : State) : State := setInput (encode i) s

theorem blockInv_offered {s : State} (i : Instr) (he : s.en = true) (h : BlockInv s) : BlockInv (offered i s) where
  disabled := fun e => by rw [show (offered i s).en = true from he] at e; cases e
  enabled := h.enabled
  ring := h.ring
  waitHeader := h.waitHeader
  getLength := h.getLength
  getPayload := h.getPayload
  checkPayload := h.checkPayload
  candidate := h.candidate
  capacities := h.capacities

theorem storageInv_offered {s : State} (i : Instr) (h : StorageInv s) : StorageInv (offered i s) :=
  ⟨h.params, h.tableForm, h.tableEntries, h.registerWidths, h.faultRecord, h.counterWidth⟩

theorem carrierInv_offered {s : State} (i : Instr) (h : CarrierInv s) : CarrierInv (offered i s) :=
  ⟨h.delayLine, h.disabled, h.enabled⟩

theorem sampleInv_offered {s : State} (i : Instr) (h : SampleInv s) : SampleInv (offered i s) :=
  ⟨h.transmit, h.receive, h.delayLine, h.output⟩

theorem witness_DecodeEncodeAgree :
    Params.default.valid = true ∧ (Instr.tick (-32768)).wellFormed Params.default = true ∧
      (Instr.cfgWr 0x0B [0, 0, 1]).wellFormed Params.default = true ∧
      (Instr.modulate 33 [0] [0, 0]).wellFormed Params.default = true := by decide

theorem witness_CommandsHaveOneEncoding :
    decode tiny [.word 0x12010001, .word 0xFFFFFFFF, .word 5] = .ok (.tblWr 1 1 0xFFFFFFFF, [.word 5]) := by decide

theorem witness_IllegalCommandWordsFault :
    (setInput [.word 0x00000001] tinyOn).ports.inp = .word 0x00000001 :: [] ∧ tinyOn.fault = false ∧
      (setInput [.word 0xFF000000] (raiseFault .rxqOvf tinyOn)).ports.inp = .word 0xFF000000 :: [] ∧
      (raiseFault .rxqOvf tinyOn).fault = true ∧
      ¬ legalCommand 0x00000001 ∧ ¬ legalCommand 0xFF000000 ∧ legalCommand 0x13FFFFFF := by
  unfold legalCommand; decide

theorem witness_StepRunsTheDecodedOperation :
    decode (offered .rxPop tinyOn).prm (offered .rxPop tinyOn).ports.inp = .ok (.rxPop, []) := by decide

theorem witness_PendingCommandLetsTicksProceed :
    decode tiny ([(0x10000000 : Word)].map .word) = .error .incomplete ∧
      (setInput [.word 0x10000000] tinyOn).ports.inp = [(0x10000000 : Word)].map .word ∧
      (setInput [.word 0x10000000, .sample 7] tinyOn).ports.inp = [(0x10000000 : Word)].map .word ++ [.sample 7] := by
  decide

theorem witness_FieldBitsRoundTrip : 255 < 2 ^ 8 ∧ 0 < 2 ^ 0 := by decide

theorem witness_ValueBeatsRoundTrip : 2 ^ 69 - 1 < 2 ^ 69 := by decide

theorem witness_SingleBitErrorsAreCaught :
    7 < ([] : Bits).length + 8 ∧ [true, false].length = [true, true].length := by decide

theorem witness_EquivalentCrcForms : 8 ≤ (List.replicate 8 true).length := by decide

theorem witness_UndetectedPatterns :
    0 + 9 ≤ (List.replicate 9 false).length ∧ 6 < 7 ∧ 7 < ([] : Bits).length + 8 ∧
      93 < (List.replicate 86 true).length + 8 := by
  decide

theorem witness_CrcCommandsAnswer :
    tinyOff.fault = false ∧ bitsIn (1 : BitVec 16).toNat [0x80000000] = some [true] ∧
      bitsIn (1 : BitVec 16).toNat [0x80000001] = none := by decide

theorem witness_NopChangesNothing :
    (0x00FFFFFF : Word).toNat / 2 ^ 24 = 0 ∧ (0x00FFFFFF : Word) ≠ 0 := by decide

theorem witness_WellFormednessIsItsConjuncts :
    (State.resetOf tiny).fault = false ∧ (State.resetOf tiny).en = false ∧ (State.resetOf tiny).wfConfig = false := by
  decide +kernel

theorem witness_EnableFollowsItsRule :
    (tinyOn.fault = false ∧ tinyOn.en = true) ∧
      ((State.resetOf tiny).fault = false ∧ (State.resetOf tiny).en = false ∧ (State.resetOf tiny).wfConfig = false) ∧
      (tinyOff.fault = false ∧ tinyOff.en = false ∧ tinyOff.wfConfig = true) := by decide +kernel

/-- A value at its bound, an unmapped index with one word, a locked register, a free one. -/
theorem witness_CfgWrFollowsItsRule :
    (tinyOff.fault = false ∧ tinyOn.fault = false ∧ [0xFFFFFFFF].length = tiny.cfgWrWords 0x0C) ∧
      (tiny.regWidth 0x0C = some 30 ∧ 2 ^ 30 ≤ beatValue [0x40000000] ∧ beatValue [0x3FFFFFFF] < 2 ^ 30) ∧
      ([0].length = tiny.cfgWrWords 0x0D ∧ tiny.regWidth 0x0D = none) ∧ tinyOn.en = true ∧ tinyOff.en = false := by
  decide +kernel

theorem witness_CfgWrReadsBack : 0x0C ≤ 0x0C ∧ 0x0B ≤ 0x0C ∧ 0x0B ≠ 0x0C := by decide

theorem witness_CfgRdFollowsItsRule :
    (0x26, tiny.thw, 0) ∈ registerMap tinyOn ∧ (2 ≤ 2 * tiny.nMax ∧ (0x42 : BitVec 8).toNat = 0x40 + 2) ∧
      ((∀ e ∈ registerMap tinyOn, (0x43 : BitVec 8).toNat ≠ e.1) ∧
        ¬ (0x40 ≤ (0x43 : BitVec 8).toNat ∧ (0x43 : BitVec 8).toNat ≤ 0x40 + 2 * tiny.nMax)) := by decide +kernel

theorem witness_TblWrFollowsItsRule :
    tinyOff.fault = false ∧ tinyOn.fault = false ∧
      ¬ (tiny.smin ≤ (128 : Word).toInt ∧ (128 : Word).toInt ≤ tiny.smax) ∧
      (tiny.smin ≤ (0xFFFFFF80 : Word).toInt ∧ (0xFFFFFF80 : Word).toInt ≤ tiny.smax) ∧
      tiny.tblMapped 3 0 = false ∧ tiny.tblMapped 2 1 = true ∧ tinyOn.en = true ∧ tinyOff.en = false := by
  decide +kernel

theorem witness_TblRdFollowsItsRule :
    (2 ≤ 2 * tiny.nMax ∧ 1 < (if 2 = 0 then tiny.pMax else tiny.sMax) ∧ tinyOn.tblEntry 2 1 = none) ∧
      tinyOn.tblEntry 2 0 = some 1 ∧ ¬ (2 ≤ 2 * tiny.nMax ∧ 2 < (if 2 = 0 then tiny.pMax else tiny.sMax)) := by
  decide +kernel

theorem witness_ConfigurationIsLockedWhileEnabled :
    (∃ t, exec .rxPop tinyOn = .next t) ∧ tinyOn.en = true ∧ Instr.rxPop ≠ .sreset := ⟨⟨_, rfl⟩, rfl, nofun⟩

theorem witness_ModulateFollowsItsRule :
    tinyOn.fault = false ∧ bitsIn tiny.hdrBits [0x01000000] = none ∧
      bitsIn tiny.hdrBits [0xFE000000] = some (List.replicate 7 true) ∧ bitsIn (0 : BitVec 16).toNat [] = some [] := by
  decide

theorem witness_WaveformParts :
    1 ≤ tinyOn.cfg.nCar ∧ tinyOn.cfg.cpLen ≤ tinyOn.cfg.symLen ∧
      (List.replicate 7 true).length = tinyOn.prm.hdrBits := by
  decide

theorem witness_GroupSamplesAreCarrierSums :
    1 ≤ tinyOn.cfg.nCar ∧ tinyOn.cfg.cpLen ≤ tinyOn.cfg.symLen ∧
      1 < ([true, false].length + tinyOn.cfg.nCar - 1) / tinyOn.cfg.nCar ∧
      0 < tinyOn.cfg.cpLen + tinyOn.cfg.symLen := by
  decide

theorem witness_SynthesisedSamplesFit :
    tinyOn.wfConfig = true ∧ 0 < tinyOn.cfg.symLen ∧ (-1 : Sample) ∈ tinyOn.symbol [false] ++ tinyOn.group [false] ∧
      StorageInv tinyOn ∧ (1 : Sample) ∈ tinyOn.preWave :=
  ⟨by decide +kernel, by decide, by decide +kernel, tinyOn_storageInv, by decide +kernel⟩

theorem witness_TxAbortEmptiesTheQueue : tinyOn.fault = false := rfl

theorem tinyLength_positions : RingPositions tinyLength := ⟨by decide, by decide, nofun, fun _ => by decide⟩

theorem tinyStalled_positions : RingPositions tinyStalled := ⟨by decide, by decide, nofun, by decide⟩

theorem witness_TickDoesItsFourEffects :
    tinyLength.en = true ∧ tinyLength.fault = false ∧ tinyLength.rx.length ≠ tinyLength.prm.rxqCap ∧
      1 ≤ tinyLength.cfg.csWin ∧ tinyLength.cfg.csWin ≤ tinyLength.csHist.length ∧ RingPositions tinyLength :=
  ⟨by decide, by decide, by decide, by decide, by decide, tinyLength_positions⟩

/-- A stalled receiver whose ring is full. -/
def tinyFull : State := { tinyStalled with rx := List.replicate 16 1 }

theorem witness_TickIdleOrOverflow :
    tinyOff.en = false ∧ (raiseFault .rxqOvf tinyOn).fault = true ∧
      (tinyFull.en = true ∧ tinyFull.fault = false ∧ tinyFull.rx.length = tinyFull.prm.rxqCap) := by decide

theorem witness_TransmitQueueLeavesInOrder :
    tinyOn.en = true ∧ tinyOn.fault = false ∧ (afterTicks [1, 2, 3] { tinyOn with txq := [5, 6] }).fault = false := by
  decide +kernel

theorem witness_OutputIgnoresInput : ∃ t t', exec (.tick 1) tinyOn = .next t ∧ exec (.tick 2) tinyOn = .next t' :=
  ⟨_, _, rfl, rfl⟩

theorem witness_CarrierSenseIgnoresTheReceiver :
    (tinyOn.en = true ∧ tinyLength.en = true ∧ tinyOn.fault = false ∧ tinyLength.fault = false) ∧
      (tinyOn.rx.length ≠ tinyOn.prm.rxqCap ∧ tinyLength.rx.length ≠ tinyLength.prm.rxqCap) ∧
      (tinyOn.cfg = tinyLength.cfg ∧ tinyOn.csHist = tinyLength.csHist ∧ tinyOn.csSum = tinyLength.csSum) ∧
      ∃ t t', exec (.tick 1) tinyOn = .next t ∧ exec (.tick 1) tinyLength = .next t' :=
  ⟨by decide, by decide, by decide, _, _, rfl, rfl⟩

theorem witness_SlidingSumHasItsClosedForm :
    tinyOn.en = true ∧ tinyOn.fault = false ∧ tinyOn.wfConfig = true ∧
      tinyOn.csHist = List.replicate tinyOn.prm.csWinMax 0 ∧ tinyOn.csSum = 0 ∧ [3, -128, 127] ≠ ([] : List Sample) ∧
      (afterTicks [3, -128, 127] tinyOn).fault = false ∧
      (∀ v ∈ ([3, -128, 127] : List Sample), tinyOn.prm.isSample v = true) ∧
      ({ tinyOn with cfg := { tinyOn.cfg with thBusy := 0 } } : State).cfg.thBusy = 0 := by decide +kernel

theorem witness_ReceiverIgnoresTheTransmitter :
    receiverSide tinyOn = receiverSide { tinyOn with txq := [5] } ∧
      ∃ t t', exec (.tick 1) tinyOn = .next t ∧ exec (.tick 1) { tinyOn with txq := [5] } = .next t' :=
  ⟨rfl, _, _, rfl, rfl⟩

/-- A scanning receiver with a window in its ring. -/
def tinyScan (rx : List Sample) (cand : Option Nat) : State := { tinyOn with
  rx := rx, cur := 2, candValid := cand.isSome, candPos := cand.getD 0, candD2 := 4, candE := 2 }

/-- No candidate and no hit; a hit that becomes the candidate; a candidate confirmed one window later. -/
theorem witness_ScanFollowsItsRule :
    [tinyScan [0, 0, 0, 0] none, tinyScan [0, 0, 1, 1] none, tinyScan [1, 1, 0, 0] (some 0)].all (fun s =>
      s.en && !s.fault && s.st == .waitHeader && !s.collecting && decide (s.rxBase ≤ s.cur) &&
        decide (s.cur + s.cfg.preLen ≤ s.rxBase + s.rx.length)) = true ∧
    takes .scan (tinyScan [0, 0, 0, 0] none) (fun t => !t.candValid && t.rxBase == 3) = true ∧
    takes .scan (tinyScan [0, 0, 1, 1] none) (fun t => t.candValid && t.rxBase == 2) = true ∧
    takes .scan (tinyScan [1, 1, 0, 0] (some 0)) (fun t => t.st == .getLength && t.cur == 2) = true := by decide +kernel

/-- Both phases, with one bit more to come and with the last one. -/
theorem witness_CollectFollowsItsRule :
    [(RxState.getLength, 2), (.getLength, 1), (.getPayload, 2), (.getPayload, 1)].all (fun p =>
      let s : State := { tinyOn with st := p.1, collecting := true, need := p.2, rx := [1] }
      s.en && !s.fault && s.collecting && decide (s.rxBase ≤ s.cur) &&
        decide (s.cur + (s.cfg.cpLen + s.cfg.symLen) ≤ s.rxBase + s.rx.length)) = true := by decide

/-- The lengths 22 and 31 are outside the limits, 23 and 30 inside. -/
theorem witness_InterpretFollowsItsRule :
    [22, 23, 30, 31].all (fun v =>
      let s : State := { tinyOn with st := .getPayload, bitbuf := ubits 5 v }
      s.en && !s.fault && s.st == .getPayload && !s.collecting &&
        (decide (uint s.bitbuf < s.cfg.lenMin ∨ s.cfg.lenMax < uint s.bitbuf) == decide (v = 22 ∨ v = 31))) = true := by
  decide

/-- A body whose header fails, one whose payload fails, and one that checks. -/
theorem witness_CheckFollowsItsRule :
    [(some 0, false, true), (some 15, true, false), (none, true, true)].all (fun q =>
      let good := frameBody (List.replicate 7 true) [true]
      let body := match q.1 with
        | some k => flipBit good k
        | none => good
      let s : State := { tinyOn with st := .checkPayload, bitbuf := body, lenVal := 24 }
      s.en && !s.fault && s.st == .checkPayload && !s.collecting && decide (s.rxf.length < s.prm.rxfCap) &&
        (crcCheck (s.bitbuf.take (s.prm.hdrBits + 8)) == q.2.1) &&
        (crcCheck ((s.bitbuf.take s.lenVal).drop (s.prm.hdrBits + 8)) == q.2.2)) = true := by decide +kernel

theorem witness_StepsNotEnabledChangeNothing :
    tinyOff.en = false ∧ (raiseFault .rxqOvf tinyOn).fault = true ∧ tinyLength.st ≠ .waitHeader ∧
      tinyLength.collecting = true ∧ tinyOn.rxBase + tinyOn.rx.length < tinyOn.cur + tinyOn.cfg.preLen ∧
      tinyLength.rxBase + tinyLength.rx.length < tinyLength.cur + tinyLength.cfg.sym ∧
      tinyStalled.rxf.length = tinyStalled.prm.rxfCap := by decide

theorem witness_RxPopFollowsItsRule :
    (tinyLength.fault = false ∧ tinyLength.rxf = [] ∧ RingPositions tinyLength) ∧
      tinyStalled.fault = false ∧ tinyStalled.rxf = tinyFrame :: [] ∧ RingPositions tinyStalled :=
  ⟨⟨by decide, by decide, tinyLength_positions⟩, by decide, by decide, tinyStalled_positions⟩

/-- A receiver in the length field whose last symbol but one has just arrived. -/
def tinyLengthMore : State := { tinyLength with rx := [1, -1, 1, 1] }

theorem witness_ClosureRunsToExhaustion :
    RingPositions (tinyScan [1, 1, 0, 0] (some 0)) ∧ RingPositions tinyLengthMore :=
  ⟨⟨by decide, by decide, fun _ _ => by decide, by decide⟩, ⟨by decide, by decide, nofun, fun _ => by decide⟩⟩

theorem witness_ReceiverRestsBetweenOperations : BlockInv tinyOn ∧ BlockInv tinyLength ∧ BlockInv tinyStalled :=
  ⟨tinyOn_blockInv, tinyLength_blockInv, tinyStalled_blockInv⟩

theorem witness_RingNeverOverflowsUnlessStalled :
    BlockInv tinyLength ∧ tinyLength.fault = false ∧ tinyLength.st ≠ .checkPayload ∧ tinyLength.en = true :=
  ⟨tinyLength_blockInv, by decide, by decide, by decide⟩

theorem witness_StalledReceiverBuffers :
    BlockInv tinyStalled ∧ tinyStalled.en = true ∧ tinyStalled.fault = false ∧ tinyStalled.st = .checkPayload ∧
      tinyStalled.rx.length < tinyStalled.prm.rxqCap :=
  ⟨tinyStalled_blockInv, by decide, by decide, by decide, by decide⟩

theorem witness_CorrelationIsBounded :
    tinyOn.ePre = energyOf tinyOn.preWave ∧
      ({ tinyOn with cfg := { tinyOn.cfg with syncKdot := 1 } } : State).cfg.syncKdot ≤ tinyOn.cfg.syncKen := by
  decide +kernel

theorem witness_CheckReadsBackTheBody :
    1 < 2 ^ tiny.dstBits ∧ 1 < 2 ^ tiny.srcBits ∧ 1 < 2 ^ tiny.seqBits ∧ 1 < 2 ^ tiny.ackBits ∧
      7 < 2 ^ tiny.flagBits := by
  decide

/-- Three leading samples, of which the last makes a hit with the preamble's first; a frame with one payload bit. -/
theorem witness_RoundTripDeliversTheFrame :
    let junk : List Sample := [0, 0, 2]
    let wave := tinyOn.waveform (headerBits tiny 1 0 1 0 7) [true]
    (tinyOn.prm.valid = true ∧ BlockInv tinyOn ∧ tinyOn.en = true ∧ tinyOn.fault = false ∧ tinyOn.st = .waitHeader ∧
      tinyOn.candValid = false ∧ tinyOn.rx = [] ∧ tinyOn.rxf.length < tinyOn.prm.rxfCap) ∧
    (1 < 2 ^ tiny.dstBits ∧ 0 < 2 ^ tiny.srcBits ∧ 1 < 2 ^ tiny.seqBits ∧ 0 < 2 ^ tiny.ackBits ∧
      7 < 2 ^ tiny.flagBits) ∧
    (tinyOn.cfg.lenMin ≤ tiny.ovh + 1 ∧ tiny.ovh + 1 ≤ tinyOn.cfg.lenMax ∧ tiny.ovh + 1 < 2 ^ tinyOn.cfg.lenBits) ∧
    Decodable tinyOn ∧ tinyOn.cfg.syncKen < tinyOn.cfg.syncKdot ∧
    (∀ w, w + tinyOn.cfg.preLen < junk.length → ¬ listHit tinyOn (junk ++ wave) w) ∧
    (∀ w, w < junk.length → junk.length ≤ w + tinyOn.cfg.preLen → listHit tinyOn (junk ++ wave) w →
      listDot tinyOn (junk ++ wave) w ^ 2 ≠ preEnergy tinyOn * listEnergy tinyOn (junk ++ wave) w) ∧
    listHit tinyOn (junk ++ wave) 2 ∧ ([0, 0] : List Sample).length = tinyOn.cfg.preLen := by
  refine ⟨⟨by decide, tinyOn_blockInv, by decide⟩, by decide, by decide, tinyOn_decodable, by decide, ?_, ?_, ?_, rfl⟩
  · intro w h
    obtain rfl : w = 0 := by have : w + 2 < 3 := h; omega
    unfold listHit; decide +kernel
  · intro w h h' _
    have : w < 3 := h
    have : 3 ≤ w + 2 := h'
    have : 1 ≤ w := by omega
    interval_cases w <;> decide +kernel
  · unfold listHit; decide +kernel

theorem witness_HostCommandsLeaveTheReceiver :
    leavesReceiver (.tblRd 0 0) = true ∧ ∃ t, exec (.tblRd 0 0) tinyLength = .next t := ⟨rfl, _, rfl⟩

theorem witness_ReceiveOperationsFrame :
    leavesReceiver (.tick 1) = false ∧ Instr.tick 1 ≠ .sreset ∧ Instr.tick 1 ≠ .rxPop ∧
      (∀ x, Instr.check ≠ .tick x) ∧ ∃ t, exec (.tick 1) tinyLength = .next t :=
  ⟨rfl, nofun, nofun, nofun, _, rfl⟩

theorem witness_FaultsArePrecise :
    tinyFull.fault = false ∧ ∃ t, exec (.tick 1) tinyFull = .next t ∧ t.fault = true := ⟨rfl, _, rfl, by decide +kernel⟩

theorem witness_FaultStateIsFrozen :
    (raiseFault .badIndex tinyOn).fault = true ∧ Instr.tick 1 ≠ .sreset ∧ (∀ x, Instr.rxPop ≠ .tick x) ∧
      (∀ idx, Instr.rxPop ≠ .cfgRd idx) ∧ (∀ sel addr, Instr.rxPop ≠ .tblRd sel addr) ∧
      (∃ t, exec .rxPop (raiseFault .badIndex tinyOn) = .next t) ∧
      ∃ t, exec (.tick 1) (raiseFault .badIndex tinyOn) = .next t :=
  ⟨rfl, nofun, nofun, nofun, nofun, ⟨_, rfl⟩, _, rfl⟩

theorem witness_StepKeepsStorage :
    StorageInv (offered (.tick 1) tinyOn) ∧ ∃ t, step (offered (.tick 1) tinyOn) = .next t :=
  ⟨storageInv_offered _ tinyOn_storageInv, _, rfl⟩

/-- The sample that completes the symbol. -/
theorem witness_StepKeepsReceiverInvariants :
    BlockInv (offered (.tick 1) tinyLength) ∧ ∃ t, step (offered (.tick 1) tinyLength) = .next t :=
  ⟨blockInv_offered _ rfl tinyLength_blockInv, _, rfl⟩

theorem witness_StepKeepsCarrierSense :
    CarrierInv (offered (.tick 1) tinyOn) ∧ ∃ t, step (offered (.tick 1) tinyOn) = .next t :=
  ⟨carrierInv_offered _ tinyOn_carrierInv, _, rfl⟩

theorem witness_StepKeepsSamplesInRange :
    StorageInv (offered (.tick 1) tinyOn) ∧ BlockInv (offered (.tick 1) tinyOn) ∧ SampleInv (offered (.tick 1) tinyOn) ∧
      ∃ t, step (offered (.tick 1) tinyOn) = .next t :=
  ⟨storageInv_offered _ tinyOn_storageInv, blockInv_offered _ rfl tinyOn_blockInv, sampleInv_offered _ tinyOn_sampleInv,
    _, rfl⟩

theorem witness_ResetMeetsTheInvariants : tiny.valid = true ∧ Params.default.valid = true := by decide

end Sys2Proof.Tests
end

section
/-! PROOFS. Bit vectors and machine words: `uint`, `ubits`, packing and reading back (R9, R10, R101). -/

namespace Sys2Proof.Proofs

open Sys2Proof.Machine

@[simp] theorem uint_nil : uint [] = 0 := rfl

/-- The last bit in time is the least significant one (R9). -/
@[simp] theorem uint_append_singleton (b : Bits) (x : Bool) : uint (b ++ [x]) = 2 * uint b + x.toNat := by
  simp [uint]

theorem uint_lt (b : Bits) : uint b < 2 ^ b.length := by
  induction b using List.reverseRecOn with
  | nil => simp
  | append_singleton b x ih =>
    rw [uint_append_singleton, List.length_append, List.length_singleton, pow_succ]
    have hx : x.toNat ≤ 1 := Bool.toNat_le x
    omega

@[simp] theorem length_ubits (k v : Nat) : (ubits k v).length = k := by simp [ubits]

@[simp] theorem ubits_zero (v : Nat) : ubits 0 v = [] := rfl

/-- A field one bit wider has the low bit of the value behind the field of its half (R9). -/
theorem ubits_succ (k v : Nat) : ubits (k + 1) v = ubits k (v / 2) ++ [decide (v % 2 = 1)] := by
  have bit_of_half : ∀ i ∈ List.range k,
      decide (v / 2 ^ (k + 1 - 1 - i) % 2 = 1) = decide (v / 2 / 2 ^ (k - 1 - i) % 2 = 1) := by
    intro i hi
    have hk : k + 1 - 1 - i = k - 1 - i + 1 := by have := List.mem_range.1 hi; omega
    rw [hk, pow_succ', Nat.div_div_eq_div_mul]
  rw [ubits, List.range_succ, List.map_append, List.map_congr_left bit_of_half]
  simp [ubits]

/-- `ubits_k` keeps the low `k` bits of a value. -/
theorem uint_ubits (k v : Nat) : uint (ubits k v) = v % 2 ^ k := by
  induction k generalizing v with
  | zero => simp [Nat.mod_one]
  | succ k ih =>
    have hbit : (decide (v % 2 = 1)).toNat = v % 2 := by
      rcases Nat.mod_two_eq_zero_or_one v with h | h <;> simp [h]
    rw [ubits_succ, uint_append_singleton, ih, hbit, pow_succ', Nat.mod_mul]
    omega

theorem ubits_uint (b : Bits) : ubits b.length (uint b) = b := by
  induction b using List.reverseRecOn with
  | nil => rfl
  | append_singleton b x ih =>
    have hhalf : (2 * uint b + x.toNat) / 2 = uint b := by have := Bool.toNat_le x; omega
    have hlow : decide ((2 * uint b + x.toNat) % 2 = 1) = x := by cases x <;> simp
    rw [List.length_append, List.length_singleton, ubits_succ, uint_append_singleton, hhalf, hlow, ih]

/-- Settles O7: `k` bits carry a value modulo `2^k`, and a vector is rebuilt from its value, last bit first. -/
theorem fieldBitsRoundTrip : Obligations.FieldBitsRoundTrip :=
  ⟨fun k v hv => ⟨length_ubits k v, by rw [uint_ubits, Nat.mod_eq_of_lt hv]⟩, ubits_uint⟩

/-! Packing (R10). -/

/-- A word holds the bits packed into it, zeros behind them (R10). -/
theorem wordBits_packWord (b : Bits) :
    wordBits (packWord b) = b.take 32 ++ List.replicate (32 - b.length) false := by
  have hlen : (b.take 32 ++ List.replicate (32 - b.length) false).length = 32 := by simp; omega
  have hlt := uint_lt (b.take 32 ++ List.replicate (32 - b.length) false)
  have hround := ubits_uint (b.take 32 ++ List.replicate (32 - b.length) false)
  rw [hlen] at hlt hround
  rw [wordBits, packWord, BitVec.toNat_ofNat, Nat.mod_eq_of_lt hlt, hround]

@[simp] theorem nw_zero : nw 0 = 0 := rfl

/-- The words of a non-empty vector: one, and those of what is left behind 32 bits. -/
theorem nw_of_pos {n : Nat} (h : 0 < n) : nw n = nw (n - 32) + 1 := by
  simp only [nw, ceilDiv]; omega

@[simp] theorem length_pack (b : Bits) : (pack b).length = nw b.length := by simp [pack]

@[simp] theorem pack_nil : pack [] = [] := rfl

/-- The first word of a packed vector, and the words of what is left behind it (R10). -/
theorem pack_of_ne_nil {b : Bits} (h : b ≠ []) : pack b = packWord b :: pack (b.drop 32) := by
  rw [pack, nw_of_pos (List.length_pos_of_ne_nil h), List.range_succ_eq_map]
  simp [pack, Function.comp_def, Nat.mul_add, Nat.add_comm]

/-- The bits of a packed vector: the vector, then the zeros that fill the last word (R10). -/
theorem unpack_pack (b : Bits) : unpack (pack b) = b ++ List.replicate (32 * nw b.length - b.length) false := by
  by_cases hb : b = []
  · subst hb; rfl
  have hpos := List.length_pos_of_ne_nil hb
  have ih := unpack_pack (b.drop 32)
  have hnw := nw_of_pos hpos
  rw [unpack] at ih ⊢
  rw [pack_of_ne_nil hb, List.flatMap_cons, wordBits_packWord, ih, List.length_drop]
  rcases Nat.lt_or_ge 32 b.length with hlong | hshort
  · have hpad : 32 * nw (b.length - 32) - (b.length - 32) = 32 * nw b.length - b.length := by omega
    rw [hpad, Nat.sub_eq_zero_of_le hlong.le, List.replicate_zero, List.append_nil, ← List.append_assoc,
      List.take_append_drop]
  · have hnil : nw (b.length - 32) = 0 := by rw [Nat.sub_eq_zero_of_le hshort]; rfl
    rw [List.take_of_length_le hshort, List.drop_eq_nil_of_le hshort, hnw, hnil]
    simp
termination_by b.length
decreasing_by simp only [List.length_drop]; omega

/-- A packed vector keeps the format of an input beat group (R101). -/
theorem bitsIn_pack (b : Bits) : bitsIn b.length (pack b) = some b := by
  simp [bitsIn, unpack_pack]

/-- Settles O8: a packed vector unpacks to itself and zeros. -/
theorem bitVectorBeatsRoundTrip : Obligations.BitVectorBeatsRoundTrip := fun b =>
  ⟨by rw [length_pack, nw, ceilDiv]; omega, bitsIn_pack b⟩

end Sys2Proof.Proofs
end

section
/-! PROOFS. What an operation of the receiver can move (R170, R190), and what any operation can do to the state. -/

namespace Sys2Proof.Proofs

open Sys2Proof.Machine Sys2Proof.Claims Sys2Proof.Laws

variable {s t u : State} {i : Instr}

/-! The frame of a step of RXSYNC. -/

theorem onlyReceiver_trans (h : onlyReceiver s t) (h' : onlyReceiver t u) : onlyReceiver s u := by
  unfold onlyReceiver at h h' ⊢
  rw [h] at h'
  exact h'

/-- What steps of RXSYNC do, any number of them: only the receiver's elements change, the ring loses samples at its
old end only, and the frame counter keeps its width (R45, R75). -/
structure ReceiverMove (s t : State) : Prop where
  frame : onlyReceiver s t
  ring : t.rx <:+ s.rx
  counter : s.badFrames < 2 ^ s.prm.cntBits → t.badFrames < 2 ^ s.prm.cntBits

namespace ReceiverMove

theorem prm (h : ReceiverMove s t) : t.prm = s.prm := (congrArg State.prm h.frame :)
theorem en (h : ReceiverMove s t) : t.en = s.en := (congrArg State.en h.frame :)
theorem fault (h : ReceiverMove s t) : t.fault = s.fault := (congrArg State.fault h.frame :)
theorem faultCode (h : ReceiverMove s t) : t.faultCode = s.faultCode := (congrArg State.faultCode h.frame :)
theorem cfg (h : ReceiverMove s t) : t.cfg = s.cfg := (congrArg State.cfg h.frame :)
theorem tbl (h : ReceiverMove s t) : t.tbl = s.tbl := (congrArg State.tbl h.frame :)
theorem energy (h : ReceiverMove s t) : t.energy = s.energy := (congrArg State.energy h.frame :)
theorem txq (h : ReceiverMove s t) : t.txq = s.txq := (congrArg State.txq h.frame :)
theorem csHist (h : ReceiverMove s t) : t.csHist = s.csHist := (congrArg State.csHist h.frame :)
theorem sampleOut (h : ReceiverMove s t) : t.sampleOut = s.sampleOut := (congrArg State.sampleOut h.frame :)

theorem refl (s : State) : ReceiverMove s s := ⟨rfl, List.suffix_rfl, id⟩

theorem trans (h : ReceiverMove s t) (h' : ReceiverMove t u) : ReceiverMove s u where
  frame := onlyReceiver_trans h.frame h'.frame
  ring := h'.ring.trans h.ring
  counter := fun hs => h.prm ▸ h'.counter (h.prm.symm ▸ h.counter hs)

/-- A move that neither discards a sample nor counts a frame. -/
theorem of_frame (h : onlyReceiver s t) (hrx : t.rx = s.rx) (hbad : t.badFrames = s.badFrames) : ReceiverMove s t :=
  ⟨h, hrx ▸ List.suffix_rfl, fun hs => hbad ▸ hs⟩

theorem rxDiscard (k : Nat) (s : State) : ReceiverMove s (rxDiscard k s) := ⟨rfl, List.drop_suffix _ _, id⟩

theorem confirm (s : State) : ReceiverMove s (confirm s) := ⟨rfl, List.drop_suffix _ _, id⟩

theorem countBadFrame (s : State) : ReceiverMove s (countBadFrame s) :=
  ⟨rfl, List.suffix_rfl, fun _ => Nat.mod_lt _ (Nat.two_pow_pos _)⟩

theorem rejectLength (s : State) : ReceiverMove s (rejectLength s) :=
  (countBadFrame s).trans (.of_frame rfl rfl rfl)

theorem acceptLength (v : Nat) (s : State) : ReceiverMove s (acceptLength v s) := ⟨rfl, List.drop_suffix _ _, id⟩

theorem settleScan (s : State) : ReceiverMove s (settleScan s) := by
  rcases settleScan_cases s with h | ⟨k, h⟩ <;> rw [h]
  · exact confirm s
  · exact rxDiscard k s

theorem scanEffect (s : State) : ReceiverMove s (scanEffect s) := by
  refine .trans (.of_frame ?_ ?_ ?_) (settleScan _) <;> cases s.replaces s.cur <;> rfl

theorem collectEffect (phase : CollectPhase) (s : State) : ReceiverMove s (collectEffect phase s) := by
  have append_bits : ReceiverMove s { s with bitbuf := s.bitbuf ++ s.newBits, cur := s.cur + s.cfg.sym } :=
    .of_frame rfl rfl rfl
  have discard : ∀ r, ReceiverMove r (collectDiscard phase r) := fun r => by
    cases phase
    · exact refl r
    · exact rxDiscard r.cur r
  have settle : ∀ r, ReceiverMove r (settleCollect phase r) := fun r => by
    unfold settleCollect
    split
    · exact .of_frame rfl rfl rfl
    · exact refl r
  exact (append_bits.trans (discard _)).trans (settle _)

theorem interpretEffect (s : State) : ReceiverMove s (interpretEffect s) := by
  unfold Machine.interpretEffect
  split
  · exact rejectLength s
  · exact acceptLength _ s

theorem checkEffect (s : State) : ReceiverMove s (checkEffect s) := by
  have judge : ReceiverMove s (judgeFrame s) := by
    unfold judgeFrame
    split
    · exact .of_frame rfl rfl rfl
    · exact countBadFrame s
  exact judge.trans (.of_frame rfl rfl rfl)

end ReceiverMove

theorem rxStep_move (h : rxStep s = some t) : ReceiverMove s t := by
  obtain ⟨-, -, scan | collectLength | collectPayload | interpret | check⟩ := rxStep_cases h
  · obtain ⟨-, -, -, -, rfl⟩ := scan; exact .scanEffect s
  · obtain ⟨-, -, -, -, rfl⟩ := collectLength; exact .collectEffect _ s
  · obtain ⟨-, -, -, -, rfl⟩ := collectPayload; exact .collectEffect _ s
  · obtain ⟨-, -, rfl⟩ := interpret; exact .interpretEffect s
  · obtain ⟨-, -, -, rfl⟩ := check; exact .checkEffect s

theorem rxClosure_move (s : State) : ReceiverMove s (rxClosure s) :=
  rxClosure_keeps (I := ReceiverMove s) (fun _ _ h e => h.trans (rxStep_move e)) s (.refl s)

/-! A turn of RXSYNC takes the step that the state selects (R110). -/

theorem code_of_selects {sel : BitVec 3} (h : s.selects sel = true) :
    4 * s.collecting.toNat + s.st.code = sel.toNat := by
  obtain ⟨-, -, hsel⟩ := (selects_iff s sel).1 h
  have hlt : 4 * s.collecting.toNat + s.st.code < 2 ^ 3 := by
    cases s.collecting <;> cases s.st <;> decide
  rw [← hsel, State.selector, BitVec.toNat_ofNat, Nat.mod_eq_of_lt hlt]

theorem rxStep_of_scanStep (h : scanStep s = some t) : rxStep s = some t := by
  have hguard := (Option.ite_none_right_eq_some.1 h).1
  have hcode := code_of_selects (Bool.and_eq_true_iff.1 hguard).1
  cases hc : s.collecting <;> cases hst : s.st <;> simp [hc, hst, RxState.code] at hcode
  simpa only [rxStep, hc, hst] using h

theorem rxStep_of_collectStep {phase : CollectPhase} (h : collectStep phase s = some t) : rxStep s = some t := by
  have hguard := (Option.ite_none_right_eq_some.1 h).1
  have hcode := code_of_selects (Bool.and_eq_true_iff.1 hguard).1
  cases phase <;> cases hc : s.collecting <;> cases hst : s.st <;>
    simp [hc, hst, RxState.code, CollectPhase.selector] at hcode
  all_goals simpa only [rxStep, hc, hst] using h

theorem rxStep_of_interpretStep (h : interpretStep s = some t) : rxStep s = some t := by
  have hcode := code_of_selects (Option.ite_none_right_eq_some.1 h).1
  cases hc : s.collecting <;> cases hst : s.st <;> simp [hc, hst, RxState.code] at hcode
  simpa only [rxStep, hc, hst] using h

theorem rxStep_of_checkStep (h : checkStep s = some t) : rxStep s = some t := by
  have hguard := (Option.ite_none_right_eq_some.1 h).1
  have hcode := code_of_selects (Bool.and_eq_true_iff.1 hguard).1
  cases hc : s.collecting <;> cases hst : s.st <;> simp [hc, hst, RxState.code] at hcode
  simpa only [rxStep, hc, hst] using h

/-! What an operation can do. -/

/-- The state of an `RX_POP` when RXSYNC begins to run (R185). -/
def popFront (s : State) : State := putBeats (popBeats s.prm s.rxf.head?) (rxfPop s)

/-- The state of a `TICK` when RXSYNC begins to run: the first three of its four effects (R221). -/
def tickFront (x : Sample) (s : State) : State := txqPop (carrierSense x (rxPush x s))

theorem tickEffect_eq (x : Sample) (s : State) : tickEffect x s = putSample s.txqHead (rxClosure (tickFront x s)) := rfl

theorem popFront_move (s : State) : ReceiverMove (popFront s) (rxClosure (popFront s)) := rxClosure_move _

theorem tickFront_move (x : Sample) (s : State) : ReceiverMove (tickFront x s) (rxClosure (tickFront x s)) :=
  rxClosure_move _

/-- The effects an operation can have on a state, one constructor for each way in which the rules of chapters 40 to 45
change it. `exec_effect` says that there are no others. -/
inductive Effect (s : State) : Instr → State → Prop
  /-- `NOP`, a host command in the fault state, a turn of RXSYNC that is not enabled (R131, R232, R190). -/
  | idle (i : Instr) : Effect s i s
  /-- A host command that raises one of its faults (R230, R231). -/
  | raised (i : Instr) (k : FaultKind) (hi : leavesReceiver i = true) (hf : s.fault = false) (hk : k ∈ mayRaise i) :
      Effect s i (raiseFault k s)
  /-- A command that only answers (R136, R138, R204, R205). -/
  | answered (i : Instr) (ws : List Word) (hi : leavesReceiver i = true) : Effect s i (putBeats ws s)
  /-- `SRESET` (R132). -/
  | reset : Effect s .sreset (softReset s)
  /-- `ENABLE` whose checks pass (R134). -/
  | enabled (hf : s.fault = false) (hen : s.en = false) (hwf : s.wfConfig = true) : Effect s .enable (enableBlock s)
  /-- `CFG_WR` whose checks pass (R135). -/
  | registerWritten (idx : BitVec 8) (value : List Word) (hf : s.fault = false)
      (hv : cfgValueOk s.prm idx.toNat value = true) (hidx : idx.toNat ≤ 0x0C) (hen : s.en = false) :
      Effect s (.cfgWr idx value) (writeCfg idx.toNat (beatValue value) s)
  /-- `TBL_WR` whose checks pass (R137). -/
  | entryWritten (sel : BitVec 8) (addr : BitVec 16) (w : Word) (v : Sample) (hf : s.fault = false)
      (hv : sampleIn s.prm w = some v) (hm : s.prm.tblMapped sel.toNat addr.toNat = true) (hen : s.en = false) :
      Effect s (.tblWr sel addr w) (writeTbl sel.toNat addr.toNat v s)
  /-- `MODULATE` whose checks pass (R157). -/
  | frameQueued (n : BitVec 16) (header payload : List Word) (hdr pay : Bits) (hf : s.fault = false) (hen : s.en = true)
      (hroom : s.txq.length + (s.waveform hdr pay).length ≤ s.prm.txqCap) :
      Effect s (.modulate n header payload) (txqPush (s.waveform hdr pay) s)
  /-- `TX_ABORT` (R158). -/
  | aborted (hf : s.fault = false) : Effect s .txAbort (txqClear s)
  /-- `RX_POP` (R185). -/
  | popped (hf : s.fault = false) : Effect s .rxPop (rxClosure (popFront s))
  /-- `TICK` of a block that is disabled or in the fault state (R221). -/
  | idleTick (x : Sample) (h : s.en = false ∨ s.fault = true) : Effect s (.tick x) (putSample 0 s)
  /-- `TICK` on a full ring (R221). -/
  | overflowTick (x : Sample) (hen : s.en = true) (hf : s.fault = false) (hfull : s.rx.length = s.prm.rxqCap) :
      Effect s (.tick x) (putSample 0 (raiseFault .rxqOvf s))
  /-- `TICK` with its four effects (R221). -/
  | ticked (x : Sample) (hen : s.en = true) (hf : s.fault = false) (hroom : s.rx.length ≠ s.prm.rxqCap) :
      Effect s (.tick x) (putSample s.txqHead (rxClosure (tickFront x s)))
  /-- An enabled step of RXSYNC (R190). -/
  | synced (i : Instr) (t : State) (hi : leavesReceiver i = false) (h : rxStep s = some t) : Effect s i t

theorem modulateFrame_effect (n : BitVec 16) (header payload : List Word) (hdr pay : Bits) (hf : s.fault = false) :
    Effect s (.modulate n header payload) (modulateFrame hdr pay s) := by
  rcases modulateFrame_cases hdr pay s with ⟨k, hk, e⟩ | ⟨hen, -, -, -, hroom, e⟩ <;> rw [e]
  · exact .raised _ k rfl hf (List.mem_cons_of_mem _ hk)
  · exact .frameQueued n header payload hdr pay hf hen hroom

/-- Every operation has one of the effects. -/
theorem exec_effect (h : exec i s = .next t) : Effect s i t := by
  cases i with
  | nop => rw [execNop_cases h]; exact .idle _
  | sreset => rw [execSreset_cases h]; exact .reset
  | enable =>
    rcases execEnable_cases h with ⟨-, rfl⟩ | ⟨hf, -, rfl⟩ | ⟨hf, -, -, rfl⟩ | ⟨hf, hen, hwf, rfl⟩
    · exact .idle _
    · exact .raised _ _ rfl hf (by decide)
    · exact .raised _ _ rfl hf (by decide)
    · exact .enabled hf hen hwf
  | cfgWr idx value =>
    rcases execCfgWr_cases h with
      ⟨-, rfl⟩ | ⟨hf, -, rfl⟩ | ⟨hf, -, -, rfl⟩ | ⟨hf, -, -, -, rfl⟩ | ⟨hf, hv, hidx, hen, rfl⟩
    · exact .idle _
    · exact .raised _ _ rfl hf (by simp [mayRaise])
    · exact .raised _ _ rfl hf (by simp [mayRaise])
    · exact .raised _ _ rfl hf (by simp [mayRaise])
    · exact .registerWritten idx value hf hv hidx hen
  | cfgRd idx =>
    rcases execCfgRd_cases h with ⟨_, -, rfl⟩ | ⟨-, -, rfl⟩ | ⟨-, hf, rfl⟩
    · exact .answered _ _ rfl
    · exact .idle _
    · exact .raised _ _ rfl hf (by simp [mayRaise])
  | tblWr sel addr w =>
    rcases execTblWr_cases h with
      ⟨-, rfl⟩ | ⟨hf, -, rfl⟩ | ⟨v, hv, hf, ⟨-, rfl⟩ | ⟨-, -, rfl⟩ | ⟨hm, hen, rfl⟩⟩
    · exact .idle _
    · exact .raised _ _ rfl hf (by simp [mayRaise])
    · exact .raised _ _ rfl hf (by simp [mayRaise])
    · exact .raised _ _ rfl hf (by simp [mayRaise])
    · exact .entryWritten sel addr w v hf hv hm hen
  | tblRd sel addr =>
    rcases execTblRd_cases h with ⟨-, rfl⟩ | ⟨-, -, rfl⟩ | ⟨-, hf, rfl⟩
    · exact .answered _ _ rfl
    · exact .idle _
    · exact .raised _ _ rfl hf (by simp [mayRaise])
  | crcAppend n bits =>
    rcases execCrcAppend_cases h with ⟨-, rfl⟩ | ⟨hf, -, rfl⟩ | ⟨_, -, -, rfl⟩
    · exact .idle _
    · exact .raised _ _ rfl hf (by simp [mayRaise])
    · exact .answered _ _ rfl
  | crcCheck n bits =>
    rcases execCrcCheck_cases h with ⟨-, rfl⟩ | ⟨hf, -, rfl⟩ | ⟨_, -, -, rfl⟩
    · exact .idle _
    · exact .raised _ _ rfl hf (by simp [mayRaise])
    · exact .answered _ _ rfl
  | modulate n header payload =>
    rcases execModulate_cases h with ⟨-, rfl⟩ | ⟨hf, -, rfl⟩ | ⟨hdr, pay, -, -, hf, rfl⟩
    · exact .idle _
    · exact .raised _ _ rfl hf (by simp [mayRaise])
    · exact modulateFrame_effect n header payload hdr pay hf
  | txAbort =>
    rcases execTxAbort_cases h with ⟨-, rfl⟩ | ⟨hf, rfl⟩
    · exact .idle _
    · exact .aborted hf
  | rxPop =>
    rcases execRxPop_cases h with ⟨-, rfl⟩ | ⟨hf, rfl⟩
    · exact .idle _
    · exact .popped hf
  | tick x =>
    rcases execTick_cases h with ⟨hoff, rfl⟩ | ⟨hen, hf, hfull, rfl⟩ | ⟨hen, hf, hroom, rfl⟩
    · exact .idleTick x hoff
    · exact .overflowTick x hen hf hfull
    · rw [tickEffect_eq]; exact .ticked x hen hf hroom
  | scan =>
    rcases execScan_cases h with ⟨-, rfl⟩ | hs
    · exact .idle _
    · exact .synced _ t rfl (rxStep_of_scanStep hs)
  | collect phase =>
    rcases execCollect_cases h with ⟨-, rfl⟩ | hs
    · exact .idle _
    · exact .synced _ t rfl (rxStep_of_collectStep hs)
  | interpret =>
    rcases execInterpret_cases h with ⟨-, rfl⟩ | hs
    · exact .idle _
    · exact .synced _ t rfl (rxStep_of_interpretStep hs)
  | check =>
    rcases execCheck_cases h with ⟨-, rfl⟩ | hs
    · exact .idle _
    · exact .synced _ t rfl (rxStep_of_checkStep hs)

/-- The same effects, as a step of the machine has them on the state whose ports have lost the items consumed: an
operation, an illegal word, or a turn of RXSYNC that selects no step (R13, R112, R110). -/
theorem step_effect (h : step s = .next t) :
    t = s ∨ (∃ i rest, fetch s.prm s.ports.inp = .run i rest ∧ Effect (setInput rest s) i t) ∨
    (∃ rest, t = setInput rest s) ∨ ∃ rest, t = raiseFault .illegalCmd (setInput rest s) := by
  rcases step_cases h with ⟨-, rfl⟩ | ⟨i, rest, hfetch, hexec⟩ | ⟨rest, -, rfl⟩ | ⟨rest, -, rfl⟩
  · exact .inl rfl
  · exact .inr (.inl ⟨i, rest, hfetch, exec_effect hexec⟩)
  · rcases illegalCommand_cases (setInput rest s) with ⟨-, e⟩ | ⟨-, e⟩ <;> rw [e]
    · exact .inr (.inr (.inl ⟨rest, rfl⟩))
    · exact .inr (.inr (.inr ⟨rest, rfl⟩))
  · exact .inr (.inr (.inl ⟨rest, rfl⟩))

end Sys2Proof.Proofs
end

section
/-! PROOFS. The step as such, the locked configuration, the resting receiver and the storage invariant (R13, R32, R47,
R34). -/

namespace Sys2Proof.Proofs

open Sys2Proof.Machine Sys2Proof.Laws

variable {s t : State} {i : Instr}

/-! A step and the decoder. -/

theorem fetch_of_decode {p : Params} {inp rest : List PortIn} (h : decode p inp = .ok (i, rest)) :
    fetch p inp = .run i rest := by
  simp [fetch, h]

theorem step_of_fetch {rest : List PortIn} (h : fetch s.prm s.ports.inp = .run i rest) :
    step s = exec i (setInput rest s) := by
  simp [step, h]

/-- Settles O5: the decoder's reading is what is fetched. -/
theorem stepRunsTheDecodedOperation : Obligations.StepRunsTheDecodedOperation :=
  fun _ _ _ h => step_of_fetch (fetch_of_decode h)

/-! Configuration lock (R32, R84). -/

/-- No effect changes the static parameters (R4). -/
theorem Effect.prm (h : Effect s i t) : t.prm = s.prm := by
  cases h with
  | popped => exact (popFront_move s).prm
  | ticked x => exact (tickFront_move x s).prm
  | synced _ _ _ hstep => exact (rxStep_move hstep).prm
  | _ => rfl

/-- The effects that write a locked element need `EN = 0`; the others leave configuration, table, energies and `EN`
alone. -/
theorem Effect.locked (h : Effect s i t) (hen : s.en = true) (hi : i ≠ .sreset) :
    t.cfg = s.cfg ∧ t.tbl = s.tbl ∧ t.energy = s.energy ∧ t.en = true := by
  have of_move : ∀ {u v : State}, ReceiverMove u v → u.en = s.en →
      v.cfg = u.cfg ∧ v.tbl = u.tbl ∧ v.energy = u.energy ∧ v.en = true :=
    fun m hu => ⟨m.cfg, m.tbl, m.energy, (m.en.trans hu).trans hen⟩
  cases h with
  | reset => exact absurd rfl hi
  | enabled _ hoff => simp [hen] at hoff
  | registerWritten _ _ _ _ _ hoff => simp [hen] at hoff
  | entryWritten _ _ _ _ _ _ _ hoff => simp [hen] at hoff
  | popped =>
    have moved := of_move (popFront_move s) rfl
    exact moved
  | ticked x =>
    have moved := of_move (tickFront_move x s) rfl
    exact moved
  | synced _ _ _ hstep => exact of_move (rxStep_move hstep) rfl
  | _ => exact ⟨rfl, rfl, rfl, hen⟩

/-- Settles O26, by the effects an operation can have. -/
theorem configurationIsLockedWhileEnabled : Obligations.ConfigurationIsLockedWhileEnabled :=
  fun _ _ _ h => ⟨(exec_effect h).prm, (exec_effect h).locked⟩

/-! Rest (R190). -/

/-- Each step of the transition table is shut out by the invariant of its state (R47 (I2) to (I6)). -/
theorem rxStep_eq_none_of_blockInv (h : BlockInv s) : rxStep s = none := by
  refine Option.eq_none_iff_forall_ne_some.2 fun t ht => ?_
  obtain ⟨hen, -, scan | collectLength | collectPayload | interpret | check⟩ := rxStep_cases ht
  · obtain ⟨hst, -, -, hwindow, -⟩ := scan
    obtain ⟨-, hfew, -⟩ := h.waitHeader hen hst
    omega
  · obtain ⟨hst, -, -, hsymbol, -⟩ := collectLength
    obtain ⟨-, -, -, hfew, -⟩ := h.getLength hst
    omega
  · obtain ⟨hst, -, -, hsymbol, -⟩ := collectPayload
    obtain ⟨-, -, -, -, -, -, hfew⟩ := h.getPayload hst
    omega
  · obtain ⟨hst, hidle, -⟩ := interpret
    obtain ⟨hcollecting, -⟩ := h.getPayload hst
    simp [hidle] at hcollecting
  · obtain ⟨hst, -, hroom, -⟩ := check
    obtain ⟨-, -, -, hfull⟩ := h.checkPayload hst
    omega

/-- Settles O46: the invariant of each synchroniser state denies the guard of its step. -/
theorem receiverRestsBetweenOperations : Obligations.ReceiverRestsBetweenOperations :=
  fun _ => rxStep_eq_none_of_blockInv

/-! The storage invariant, one rule per change of the state. -/

theorem StorageInv_raiseFault (k : FaultKind) (h : StorageInv s) : StorageInv (raiseFault k s) where
  params := h.params
  tableForm := h.tableForm
  tableEntries := h.tableEntries
  registerWidths := h.registerWidths
  faultRecord := ⟨k, rfl⟩
  counterWidth := h.counterWidth

/-- Changes that touch none of the elements that the invariant speaks of. -/
theorem StorageInv_congr (h : StorageInv s) (hprm : t.prm = s.prm) (htbl : t.tbl = s.tbl) (hcfg : t.cfg = s.cfg)
    (hfault : t.fault = s.fault) (hcode : t.faultCode = s.faultCode) (hbad : t.badFrames < 2 ^ s.prm.cntBits) :
    StorageInv t where
  params := hprm ▸ h.params
  tableForm := htbl ▸ h.tableForm
  tableEntries := by rw [hprm, htbl]; exact h.tableEntries
  registerWidths := by rw [hprm, hcfg]; exact h.registerWidths
  faultRecord := by rw [hfault, hcode]; exact h.faultRecord
  counterWidth := hprm ▸ hbad

theorem StorageInv_move (h : StorageInv s) (m : ReceiverMove s t) : StorageInv t :=
  StorageInv_congr h m.prm m.tbl m.cfg m.fault m.faultCode (m.counter h.counterWidth)

/-- The reset column of R31 fits the register widths, whatever the static parameters. -/
theorem CfgRegs_reset_get_lt {p : Params} {idx w : Nat} (hidx : idx ≤ 0x0C) (hw : p.regWidth idx = some w) :
    CfgRegs.reset.get idx < 2 ^ w := by
  by_cases hth : idx ≤ 0x0A
  · have hw32 : 32 = w := by simpa [Params.regWidth, hth] using hw
    subst hw32
    interval_cases idx <;> decide
  · have hzero : CfgRegs.reset.get idx = 0 := by
      have hbounds : 0x0B ≤ idx := by omega
      interval_cases idx <;> rfl
    rw [hzero]
    exact Nat.two_pow_pos w

theorem StorageInv_softReset (h : StorageInv s) : StorageInv (softReset s) where
  params := h.params
  tableForm := resetOf_tbl_wf s.prm
  tableEntries := nofun
  registerWidths := fun _ _ hidx hw => CfgRegs_reset_get_lt hidx hw
  faultRecord := rfl
  counterWidth := Nat.two_pow_pos _

/-- A register read after a register write (R31). -/
theorem CfgRegs_get_set (c : CfgRegs) {idx idx' : Nat} (v : Nat) (h : idx ≤ 0x0C) (h' : idx' ≤ 0x0C) :
    (c.set idx v).get idx' = if idx' = idx then v else c.get idx' := by
  interval_cases idx <;> interval_cases idx' <;> rfl

/-- A value that keeps the format of its register's beat fits the register (R101, R135). -/
theorem beatValue_lt_of_cfgValueOk {p : Params} {idx w : Nat} {value : List Word} (hw : p.regWidth idx = some w)
    (h : cfgValueOk p idx value = true) : beatValue value < 2 ^ w := by
  obtain ⟨v, hv⟩ := Option.isSome_iff_exists.1 (show (valueIn w value).isSome = true by simpa [cfgValueOk, hw] using h)
  obtain ⟨⟨-, hlt⟩, -⟩ := Option.ite_none_right_eq_some.1 hv
  exact hlt

theorem StorageInv_writeCfg {idx : Nat} {value : List Word} (h : StorageInv s) (hidx : idx ≤ 0x0C)
    (hv : cfgValueOk s.prm idx value = true) : StorageInv (writeCfg idx (beatValue value) s) where
  params := h.params
  tableForm := h.tableForm
  tableEntries := h.tableEntries
  registerWidths := fun idx' w hidx' hw => by
    rw [writeCfg_cfg, CfgRegs_get_set _ _ hidx hidx']
    split
    · next heq => subst heq; exact beatValue_lt_of_cfgValueOk hw hv
    · exact h.registerWidths idx' w hidx' hw
  faultRecord := h.faultRecord
  counterWidth := h.counterWidth

theorem isSample_of_sampleIn {p : Params} {w : Word} {v : Sample} (h : sampleIn p w = some v) : p.isSample v = true := by
  obtain ⟨hs, hv⟩ := Option.ite_none_right_eq_some.1 h
  exact Option.some.inj hv ▸ hs

theorem StorageInv_writeTbl {sel addr : Nat} {v : Sample} (h : StorageInv s) (hv : s.prm.isSample v = true)
    (hm : s.prm.tblMapped sel addr = true) (haddr : addr < 65536) : StorageInv (writeTbl sel addr v s) where
  params := h.params
  tableForm := Memory_write_wf h.tableForm _ _
  tableEntries := fun c hc => by
    rcases Memory_mem_write hc with rfl | hold
    · exact ⟨hv, sel, addr, hm, haddr, rfl⟩
    · exact h.tableEntries c hold
  registerWidths := h.registerWidths
  faultRecord := h.faultRecord
  counterWidth := h.counterWidth

theorem StorageInv_effect (h : StorageInv s) (e : Effect s i t) : StorageInv t := by
  have same : ∀ {u : State}, u.prm = s.prm → u.tbl = s.tbl → u.cfg = s.cfg → u.fault = s.fault →
      u.faultCode = s.faultCode → u.badFrames = s.badFrames → StorageInv u :=
    fun h1 h2 h3 h4 h5 h6 => StorageInv_congr h h1 h2 h3 h4 h5 (h6 ▸ h.counterWidth)
  cases e with
  | idle => exact h
  | raised _ k => exact StorageInv_raiseFault k h
  | reset => exact StorageInv_softReset h
  | registerWritten _ _ _ hv hidx => exact StorageInv_writeCfg h hidx hv
  | entryWritten _ addr _ _ _ hv hm => exact StorageInv_writeTbl h (isSample_of_sampleIn hv) hm addr.isLt
  | popped =>
    have front : StorageInv (popFront s) := same rfl rfl rfl rfl rfl rfl
    exact StorageInv_move front (popFront_move s)
  | overflowTick => exact StorageInv_congr (StorageInv_raiseFault .rxqOvf h) rfl rfl rfl rfl rfl h.counterWidth
  | ticked x =>
    have front : StorageInv (tickFront x s) := same rfl rfl rfl rfl rfl rfl
    have closed := StorageInv_move front (tickFront_move x s)
    exact StorageInv_congr closed rfl rfl rfl rfl rfl closed.counterWidth
  | synced _ _ _ hstep => exact StorageInv_move h (rxStep_move hstep)
  | _ => exact same rfl rfl rfl rfl rfl rfl

theorem StorageInv_setInput (rest : List PortIn) (h : StorageInv s) : StorageInv (setInput rest s) :=
  StorageInv_congr h rfl rfl rfl rfl rfl h.counterWidth

/-- Settles O56: taking the input and every effect keep the storage invariant. -/
theorem stepKeepsStorage : Obligations.StepKeepsStorage := by
  intro s t h hstep
  rcases step_effect hstep with rfl | ⟨_, rest, -, e⟩ | ⟨rest, rfl⟩ | ⟨rest, rfl⟩
  · exact h
  · exact StorageInv_effect (StorageInv_setInput rest h) e
  · exact StorageInv_setInput rest h
  · exact StorageInv_raiseFault _ (StorageInv_setInput rest h)

end Sys2Proof.Proofs
end

section
/-! PROOFS. Every sample held or put out is a sample: the input lines, the synthesised waveform, the queues (R8, R111,
R153, R220). -/

namespace Sys2Proof.Proofs

open Sys2Proof.Machine Sys2Proof.Laws

variable {s t : State} {i : Instr}

theorem isSample_iff (p : Params) (v : Int) : p.isSample v = true ↔ p.smin ≤ v ∧ v ≤ p.smax := by
  simp [Params.isSample]

theorem smin_eq_neg_smax (p : Params) : p.smin = -p.smax - 1 := by
  simp only [Params.smin, Params.smax]; omega

theorem smax_nonneg (p : Params) : 0 ≤ p.smax := by
  have hpos : (0 : Int) < 2 ^ (p.sw - 1) := by positivity
  simp only [Params.smax]; omega

theorem isSample_zero (p : Params) : p.isSample 0 = true := by
  have := smax_nonneg p
  rw [isSample_iff, smin_eq_neg_smax]; omega

/-- The symmetric range of R153 lies within the samples. -/
theorem isSample_of_natAbs_le {p : Params} {v : Int} (h : (v.natAbs : Int) ≤ p.smax) : p.isSample v = true := by
  rw [isSample_iff, smin_eq_neg_smax]; omega

/-! The input lines (R111): a `TICK` is read from the sample input only. -/

/-- Sign extension of `k` bits answers a `k`-bit integer (R10). -/
theorem sext_bounds {k : Nat} (hk : 1 ≤ k) (v : Nat) : -2 ^ (k - 1) ≤ sext k v ∧ sext k v ≤ 2 ^ (k - 1) - 1 := by
  obtain ⟨n, rfl⟩ := Nat.exists_eq_add_of_le' hk
  have hmod : v % 2 ^ (n + 1) < 2 ^ (n + 1) := Nat.mod_lt _ (Nat.two_pow_pos _)
  have hpow : ((2 ^ n : Nat) : Int) = 2 ^ n := by push_cast; rfl
  rw [Nat.add_sub_cancel, ← hpow]
  simp only [sext]
  rw [pow_succ] at hmod ⊢
  split <;> omega

theorem isSample_sext {p : Params} (hp : p.valid = true) (v : Nat) : p.isSample (sext p.sw v) = true := by
  have hsw : 1 ≤ p.sw := by simp [Params.valid] at hp; omega
  exact (isSample_iff p _).2 (sext_bounds hsw v)

theorem mbz_eq_ok {zero : Bool} {r : Except DecodeReject (Instr × List PortIn)} {o : Instr × List PortIn}
    (h : mbz zero r = .ok o) : zero = true ∧ r = .ok o := by
  cases zero <;> simp_all [mbz]

theorem withWords_eq_ok {k : Nat} {inp : List PortIn} {build : List Word → Instr} {o : Instr × List PortIn}
    (h : withWords k inp build = .ok o) : ∃ ws rest, takeWords k inp = some (ws, rest) ∧ o = (build ws, rest) := by
  unfold withWords at h
  split at h
  · next ws rest hw => cases h; exact ⟨ws, rest, hw, rfl⟩
  · cases h

/-- A command word is never read as a `TICK`: the opcode map of R102 holds host commands only. -/
theorem decodeCommand_ne_tick {p : Params} {cw : Word} {inp : List PortIn} {o : Instr × List PortIn}
    (h : decodeCommand p cw inp = .ok o) (x : Sample) : o.1 ≠ .tick x := by
  have of_mbz : ∀ {zero : Bool} {j : Instr}, mbz zero (.ok (j, inp)) = .ok o → o.1 = j := fun hz => by
    obtain ⟨-, e⟩ := mbz_eq_ok hz
    cases e; rfl
  have of_words : ∀ {k : Nat} {build : List Word → Instr}, withWords k inp build = .ok o →
      (∀ ws, build ws ≠ .tick x) → o.1 ≠ .tick x := fun hw hbuild => by
    obtain ⟨ws, rest, -, rfl⟩ := withWords_eq_ok hw
    exact hbuild ws
  simp only [decodeCommand] at h
  split at h
  case h_4 => exact of_words (mbz_eq_ok h).2 fun _ => nofun
  case h_6 => exact of_words h fun _ => nofun
  case h_7 => cases h; exact nofun
  case h_8 | h_9 | h_10 => exact of_words (mbz_eq_ok h).2 fun _ => nofun
  case h_13 => cases h
  all_goals rw [of_mbz h]; exact nofun

theorem decodeSelector_ne_tick {sel : BitVec 3} (h : decodeSelector sel = .ok i) (x : Sample) : i ≠ .tick x := by
  unfold decodeSelector at h
  split at h <;> cases h <;> exact nofun

theorem isSample_of_decode_tick {p : Params} (hp : p.valid = true) {inp rest : List PortIn} {x : Sample}
    (h : decode p inp = .ok (.tick x, rest)) : p.isSample x = true := by
  cases inp with
  | nil => cases h
  | cons e inp =>
    cases e with
    | word cw => exact absurd rfl (decodeCommand_ne_tick h x)
    | sample w => cases h; exact isSample_sext hp w.toNat
    | sync sel =>
      cases hsel : decodeSelector sel with
      | error => simp [decode, hsel, Except.map] at h
      | ok j =>
        have hj : j = .tick x := by simp [decode, hsel, Except.map] at h; exact h.1
        exact absurd hj (decodeSelector_ne_tick hsel x)

/-- What is fetched was decoded, at the head of what waits or behind a pending command (R279). -/
theorem decode_of_fetch {p : Params} {inp rest : List PortIn} (h : fetch p inp = .run i rest) :
    ∃ inp' rest', decode p inp' = .ok (i, rest') := by
  unfold fetch at h
  split at h
  case h_1 hd => cases h; exact ⟨_, _, hd⟩
  case h_6 =>
    split at h
    · cases h
    · split at h
      · next hd => cases h; exact ⟨_, _, hd⟩
      · cases h
  all_goals cases h

theorem isSample_of_fetch_tick {p : Params} (hp : p.valid = true) {inp rest : List PortIn} {x : Sample}
    (h : fetch p inp = .run (.tick x) rest) : p.isSample x = true :=
  let ⟨_, _, hd⟩ := decode_of_fetch h
  isSample_of_decode_tick hp hd

/-! The synthesised waveform (R152 to R155). -/

theorem mem_of_read {m : Memory} {k : Nat} {v : Sample} (h : Memory.read m k = some v) : (k, v) ∈ m := by
  induction m with
  | nil => cases h
  | cons c m ih =>
    unfold Memory.read at h
    split at h
    · next hk => cases h; subst hk; exact List.mem_cons_self
    · exact List.mem_cons_of_mem _ (ih h)

theorem isSample_of_tblEntry (h : StorageInv s) {sel addr : Nat} {v : Sample} (hv : s.tblEntry sel addr = some v) :
    s.prm.isSample v = true :=
  (h.tableEntries _ (mem_of_read hv)).1

theorem rowWritten_iff (s : State) (sel n : Nat) :
    s.rowWritten sel n = true ↔ ∀ a < n, (s.tblEntry sel a).isSome = true := by
  simp [State.rowWritten]

/-- `WF` as its five groups of conjuncts (R33). -/
theorem wfConfig_iff (s : State) : s.wfConfig = true ↔
    s.wfRegs = true ∧ s.wfWritten = true ∧ s.wfPreamble = true ∧ s.wfPeak = true ∧ s.wfQueues = true := by
  simp [State.wfConfig, and_assoc]

/-- The preamble was written (W11), and what is written is a sample. -/
theorem isSample_of_mem_preWave (h : StorageInv s) (hwf : s.wfConfig = true) {v : Sample} (hv : v ∈ s.preWave) :
    s.prm.isSample v = true := by
  obtain ⟨-, hwritten, -⟩ := (wfConfig_iff s).1 hwf
  obtain ⟨a, ha, rfl⟩ := List.mem_map.1 hv
  have hrow : s.rowWritten 0 s.cfg.preLen = true := by simp [State.wfWritten] at hwritten; exact hwritten.1
  obtain ⟨w, hw⟩ := Option.isSome_iff_exists.1 ((rowWritten_iff s 0 _).1 hrow a (List.mem_range.1 ha))
  rw [State.tblSample, hw]
  exact isSample_of_tblEntry h hw

/-- A sum is no larger than the sum of bounds of its terms. -/
theorem natAbs_sum_map_le {α : Type} (l : List α) {f : α → Int} {g : α → Nat} (h : ∀ a, (f a).natAbs ≤ g a) :
    (l.map f).sum.natAbs ≤ (l.map g).sum := by
  induction l with
  | nil => simp
  | cons a l ih =>
    have := h a
    simp only [List.map_cons, List.sum_cons]
    omega

/-- A carrier contributes one of its two basis samples (R152, W13). -/
theorem natAbs_tblSample_le_carrierPeak (s : State) (c : Nat) (b : Bool) (a : Nat) :
    (s.tblSample (basRow c b) a).natAbs ≤ s.carrierPeak c a := by
  cases b
  · exact le_max_left _ _
  · exact le_max_right _ _

theorem natAbs_coreSample_le (s : State) (β : Bits) (a : Nat) :
    (s.coreSample β a).natAbs ≤ ((List.range s.cfg.nCar).map fun c => s.carrierPeak c a).sum :=
  natAbs_sum_map_le _ fun c => natAbs_tblSample_le_carrierPeak s c (β.getD c false) a

/-- (W13) bounds every sample of a symbol core (R153). -/
theorem natAbs_le_smax_of_mem_core (hwf : s.wfConfig = true) {β : Bits} {v : Sample} (hv : v ∈ s.core β) :
    (v.natAbs : Int) ≤ s.prm.smax := by
  obtain ⟨-, -, -, hpeak, -⟩ := (wfConfig_iff s).1 hwf
  obtain ⟨a, ha, rfl⟩ := List.mem_map.1 hv
  have hsum : ((((List.range s.cfg.nCar).map fun c => s.carrierPeak c a).sum : Nat) : Int) ≤ s.prm.smax := by
    simp only [State.wfPeak, List.all_eq_true, decide_eq_true_eq] at hpeak
    exact hpeak a ha
  have := natAbs_coreSample_le s β a
  omega

theorem mem_core_of_mem_symbol {β : Bits} {v : Sample} (hv : v ∈ s.symbol β) : v ∈ s.core β :=
  (List.mem_append.1 hv).elim List.mem_of_mem_drop id

theorem exists_mem_core_of_mem_group {b : Bits} {v : Sample} (hv : v ∈ s.group b) : ∃ β, v ∈ s.core β := by
  obtain ⟨m, -, hm⟩ := List.mem_flatMap.1 hv
  exact ⟨_, mem_core_of_mem_symbol hm⟩

theorem isSample_of_mem_group (hwf : s.wfConfig = true) {b : Bits} {v : Sample} (hv : v ∈ s.group b) :
    s.prm.isSample v = true := by
  obtain ⟨β, hβ⟩ := exists_mem_core_of_mem_group hv
  exact isSample_of_natAbs_le (natAbs_le_smax_of_mem_core hwf hβ)

theorem isSample_of_mem_waveform (h : StorageInv s) (hwf : s.wfConfig = true) {hdr pay : Bits} {v : Sample}
    (hv : v ∈ s.waveform hdr pay) : s.prm.isSample v = true := by
  simp only [State.waveform, List.mem_append] at hv
  rcases hv with (preamble | lengthGroup) | bodyGroup
  · exact isSample_of_mem_preWave h hwf preamble
  · exact isSample_of_mem_group hwf lengthGroup
  · exact isSample_of_mem_group hwf bodyGroup

/-! The sample invariant, one rule per change of the state. -/

/-- Changes that put nothing new into any of the places that hold samples. -/
theorem SampleInv_of_subset (h : SampleInv s) (hprm : t.prm = s.prm) (htxq : t.txq ⊆ s.txq) (hrx : t.rx ⊆ s.rx)
    (hhist : t.csHist = s.csHist) (hout : t.sampleOut = s.sampleOut) : SampleInv t where
  transmit := fun v hv => hprm ▸ h.transmit v (htxq hv)
  receive := fun v hv => hprm ▸ h.receive v (hrx hv)
  delayLine := fun v hv => hprm ▸ h.delayLine v (hhist ▸ hv)
  output := by rw [hprm, hout]; exact h.output

theorem SampleInv_move (h : SampleInv s) (m : ReceiverMove s t) : SampleInv t :=
  SampleInv_of_subset h m.prm (fun _ hv => m.txq ▸ hv) m.ring.subset m.csHist m.sampleOut

theorem SampleInv_softReset (s : State) : SampleInv (softReset s) where
  transmit := nofun
  receive := nofun
  delayLine := fun _ hv => List.eq_of_mem_replicate hv ▸ isSample_zero s.prm
  output := isSample_zero s.prm

theorem SampleInv_putSample {y : Sample} (h : SampleInv s) (hy : s.prm.isSample y = true) : SampleInv (putSample y s) :=
  ⟨h.transmit, h.receive, h.delayLine, hy⟩

theorem SampleInv_txqPush {w : List Sample} (h : SampleInv s) (hw : ∀ v ∈ w, s.prm.isSample v = true) :
    SampleInv (txqPush w s) where
  transmit := fun v hv => (List.mem_append.1 hv).elim (h.transmit v) (hw v)
  receive := h.receive
  delayLine := h.delayLine
  output := h.output

theorem SampleInv_rxPush {x : Sample} (h : SampleInv s) (hx : s.prm.isSample x = true) : SampleInv (rxPush x s) where
  transmit := h.transmit
  receive := fun v hv => (List.mem_append.1 hv).elim (h.receive v) fun hv => List.mem_singleton.1 hv ▸ hx
  delayLine := h.delayLine
  output := h.output

theorem SampleInv_carrierSense {x : Sample} (h : SampleInv s) (hx : s.prm.isSample x = true) :
    SampleInv (carrierSense x s) where
  transmit := h.transmit
  receive := h.receive
  delayLine := fun v hv => by
    rcases List.mem_cons.1 hv with rfl | hold
    · exact hx
    · exact h.delayLine v ((List.mem_append.1 hold).elim List.mem_of_mem_take List.mem_of_mem_drop)
  output := h.output

theorem SampleInv_tickFront {x : Sample} (h : SampleInv s) (hx : s.prm.isSample x = true) :
    SampleInv (tickFront x s) :=
  SampleInv_of_subset (SampleInv_carrierSense (SampleInv_rxPush h hx) hx) rfl (List.tail_subset _) (List.Subset.refl _)
    rfl rfl

/-- The sample popped is one of the queue, or 0 (R76). -/
theorem isSample_txqHead (h : SampleInv s) : s.prm.isSample s.txqHead = true := by
  unfold State.txqHead
  cases hq : s.txq with
  | nil => exact isSample_zero s.prm
  | cons v q => exact h.transmit v (hq ▸ List.mem_cons_self)

theorem SampleInv_effect (hstorage : StorageInv s) (hwf : s.en = true → s.wfConfig = true) (h : SampleInv s)
    (hin : ∀ x, i = .tick x → s.prm.isSample x = true) (e : Effect s i t) : SampleInv t := by
  have same : ∀ {u : State}, u.prm = s.prm → u.txq = s.txq → u.rx = s.rx → u.csHist = s.csHist →
      u.sampleOut = s.sampleOut → SampleInv u :=
    fun h1 h2 h3 h4 h5 => SampleInv_of_subset h h1 (fun _ hv => h2 ▸ hv) (fun _ hv => h3 ▸ hv) h4 h5
  cases e with
  | idle => exact h
  | reset => exact SampleInv_softReset s
  | frameQueued _ _ _ hdr pay _ hen =>
    exact SampleInv_txqPush h fun v hv => isSample_of_mem_waveform hstorage (hwf hen) hv
  | aborted => exact SampleInv_of_subset h rfl (List.nil_subset _) (List.Subset.refl _) rfl rfl
  | popped =>
    have front : SampleInv (popFront s) := same rfl rfl rfl rfl rfl
    exact SampleInv_move front (popFront_move s)
  | idleTick => exact SampleInv_putSample h (isSample_zero _)
  | overflowTick =>
    have faulted : SampleInv (raiseFault .rxqOvf s) := same rfl rfl rfl rfl rfl
    exact SampleInv_putSample faulted (isSample_zero _)
  | ticked x =>
    have closed := SampleInv_move (SampleInv_tickFront h (hin x rfl)) (tickFront_move x s)
    have hprm : (rxClosure (tickFront x s)).prm = s.prm := (tickFront_move x s).prm
    exact SampleInv_putSample closed (hprm ▸ isSample_txqHead h)
  | synced _ _ _ hstep => exact SampleInv_move h (rxStep_move hstep)
  | _ => exact same rfl rfl rfl rfl rfl

theorem SampleInv_setInput (rest : List PortIn) (h : SampleInv s) : SampleInv (setInput rest s) :=
  ⟨h.transmit, h.receive, h.delayLine, h.output⟩

/-- Settles O59: an input sample comes from the sample lines, a queued one from a waveform that `WF` bounds, and
everything else moves samples that were there. -/
theorem stepKeepsSamplesInRange : Obligations.StepKeepsSamplesInRange := by
  intro s t hstorage hblock h hstep
  rcases step_effect hstep with rfl | ⟨i, rest, hfetch, e⟩ | ⟨rest, rfl⟩ | ⟨rest, rfl⟩
  · exact h
  · refine SampleInv_effect (StorageInv_setInput rest hstorage) (fun hen => (hblock.enabled hen).1)
      (SampleInv_setInput rest h) (fun x hx => ?_) e
    subst hx
    exact isSample_of_fetch_tick hstorage.params hfetch
  · exact SampleInv_setInput rest h
  · exact SampleInv_of_subset (SampleInv_setInput rest h) rfl (List.Subset.refl _) (List.Subset.refl _) rfl rfl

end Sys2Proof.Proofs
end

section
/-! PROOFS. The ways a step of RXSYNC can go, and why a closure comes to rest (R170, R190). -/

namespace Sys2Proof.Proofs

open Sys2Proof.Machine Sys2Proof.Laws

variable {s t : State}

theorem length_newBits (s : State) : s.newBits.length = min s.cfg.nCar (s.need - s.bitbuf.length) := by
  simp [State.newBits, State.sliceAll]

/-- The state of a `COLLECT` step whose symbol has been sliced (R174). -/
def collected (s : State) : State := { s with bitbuf := s.bitbuf ++ s.newBits, cur := s.cur + s.cfg.sym }

/-- The ways a step of RXSYNC can go: each row of R170 with each outcome its rule has (R172, R174, R179, R181).
`rxStep_turn` says that there are no others. -/
inductive SyncTurn (s : State) : State → Prop
  /-- `SCAN` finds no better window where the candidate is confirmed. -/
  | confirmed (hst : s.st = .waitHeader) (hidle : s.collecting = false) (hfits : s.cur + s.cfg.preLen ≤ s.rxWr)
      (hcand : s.candValid = true) (hpos : s.cur = s.candPos + s.cfg.preLen) :
      SyncTurn s (confirm { s with cur := s.cur + 1 })
  /-- `SCAN` keeps the candidate. -/
  | kept (hst : s.st = .waitHeader) (hidle : s.collecting = false) (hfits : s.cur + s.cfg.preLen ≤ s.rxWr)
      (hcand : s.candValid = true) (hpos : s.cur ≠ s.candPos + s.cfg.preLen) :
      SyncTurn s (rxDiscard s.candPos { s with cur := s.cur + 1 })
  /-- `SCAN` takes the window as the candidate. -/
  | replaced (hst : s.st = .waitHeader) (hidle : s.collecting = false) (hfits : s.cur + s.cfg.preLen ≤ s.rxWr) :
      SyncTurn s (rxDiscard s.cur { takeCandidate s.cur s with cur := s.cur + 1 })
  /-- `SCAN` has no candidate. -/
  | passed (hst : s.st = .waitHeader) (hidle : s.collecting = false) (hfits : s.cur + s.cfg.preLen ≤ s.rxWr)
      (hcand : s.candValid = false) : SyncTurn s (rxDiscard (s.cur + 1) { s with cur := s.cur + 1 })
  /-- `COLLECT` of the length field, with more to come. -/
  | lengthGrown (hst : s.st = .getLength) (hon : s.collecting = true) (hfits : s.cur + s.cfg.sym ≤ s.rxWr)
      (hpart : (collected s).bitbuf.length ≠ s.need) : SyncTurn s (collected s)
  /-- `COLLECT` of the last symbol of the length field. -/
  | lengthFull (hst : s.st = .getLength) (hon : s.collecting = true) (hfits : s.cur + s.cfg.sym ≤ s.rxWr)
      (hfull : (collected s).bitbuf.length = s.need) :
      SyncTurn s { collected s with collecting := false, st := .getPayload }
  /-- `COLLECT` of the body, with more to come. -/
  | bodyGrown (hst : s.st = .getPayload) (hon : s.collecting = true) (hfits : s.cur + s.cfg.sym ≤ s.rxWr)
      (hpart : (collected s).bitbuf.length ≠ s.need) : SyncTurn s (rxDiscard (s.cur + s.cfg.sym) (collected s))
  /-- `COLLECT` of the last symbol of the body. -/
  | bodyFull (hst : s.st = .getPayload) (hon : s.collecting = true) (hfits : s.cur + s.cfg.sym ≤ s.rxWr)
      (hfull : (collected s).bitbuf.length = s.need) :
      SyncTurn s { rxDiscard (s.cur + s.cfg.sym) (collected s) with collecting := false, st := .checkPayload }
  /-- `INTERPRET` of a length outside the limits. -/
  | rejected (hst : s.st = .getPayload) (hidle : s.collecting = false) : SyncTurn s (rejectLength s)
  /-- `INTERPRET` of a length within the limits. -/
  | accepted (v : Nat) (hst : s.st = .getPayload) (hidle : s.collecting = false) (hmin : s.cfg.lenMin ≤ v)
      (hmax : v ≤ s.cfg.lenMax) : SyncTurn s (acceptLength v s)
  /-- `CHECK`, whatever it finds. -/
  | checked (hst : s.st = .checkPayload) (hidle : s.collecting = false) (hroom : s.rxf.length < s.prm.rxfCap) :
      SyncTurn s (checkEffect s)

theorem scanEffect_turn (hpre : 1 ≤ s.cfg.preLen) (hst : s.st = .waitHeader) (hidle : s.collecting = false)
    (hfits : s.cur + s.cfg.preLen ≤ s.rxWr) : SyncTurn s (scanEffect s) := by
  unfold scanEffect
  cases hr : s.replaces s.cur with
  | true =>
    have early : s.cfg.preLen ≠ 0 := by omega
    simpa [settleScan, early] using SyncTurn.replaced hst hidle hfits
  | false =>
    cases hcand : s.candValid with
    | false => simpa [settleScan, hcand] using SyncTurn.passed hst hidle hfits hcand
    | true =>
      by_cases hpos : s.cur = s.candPos + s.cfg.preLen
      · simpa [settleScan, hcand, hpos] using SyncTurn.confirmed hst hidle hfits hcand hpos
      · simpa [settleScan, hcand, hpos] using SyncTurn.kept hst hidle hfits hcand hpos

theorem collectEffect_getLength_turn (hst : s.st = .getLength) (hon : s.collecting = true)
    (hfits : s.cur + s.cfg.sym ≤ s.rxWr) : SyncTurn s (collectEffect .getLength s) := by
  by_cases hfull : (collected s).bitbuf.length = s.need
  · have e : collectEffect .getLength s = { collected s with collecting := false, st := .getPayload } := if_pos hfull
    exact e ▸ .lengthFull hst hon hfits hfull
  · have e : collectEffect .getLength s = collected s := if_neg hfull
    exact e ▸ .lengthGrown hst hon hfits hfull

theorem collectEffect_getPayload_turn (hst : s.st = .getPayload) (hon : s.collecting = true)
    (hfits : s.cur + s.cfg.sym ≤ s.rxWr) : SyncTurn s (collectEffect .getPayload s) := by
  by_cases hfull : (collected s).bitbuf.length = s.need
  · have e : collectEffect .getPayload s =
        { rxDiscard (s.cur + s.cfg.sym) (collected s) with collecting := false, st := .checkPayload } := if_pos hfull
    exact e ▸ .bodyFull hst hon hfits hfull
  · have e : collectEffect .getPayload s = rxDiscard (s.cur + s.cfg.sym) (collected s) := if_neg hfull
    exact e ▸ .bodyGrown hst hon hfits hfull

theorem interpretEffect_turn (hst : s.st = .getPayload) (hidle : s.collecting = false) :
    SyncTurn s (interpretEffect s) := by
  unfold interpretEffect
  split
  · exact .rejected hst hidle
  · exact .accepted _ hst hidle (by omega) (by omega)

/-- Every step of RXSYNC goes one of these ways. -/
theorem rxStep_turn (hpre : 1 ≤ s.cfg.preLen) (h : rxStep s = some t) : SyncTurn s t := by
  obtain ⟨-, -, scan | collectLength | collectPayload | interpret | check⟩ := rxStep_cases h
  · obtain ⟨hst, hidle, -, hfits, rfl⟩ := scan; exact scanEffect_turn hpre hst hidle hfits
  · obtain ⟨hst, hon, -, hfits, rfl⟩ := collectLength; exact collectEffect_getLength_turn hst hon hfits
  · obtain ⟨hst, hon, -, hfits, rfl⟩ := collectPayload; exact collectEffect_getPayload_turn hst hon hfits
  · obtain ⟨hst, hidle, rfl⟩ := interpret; exact interpretEffect_turn hst hidle
  · obtain ⟨hst, hidle, hroom, rfl⟩ := check; exact .checked hst hidle hroom

/-! What `CHECK` leaves of the receiver (R181). -/

theorem judgeFrame_cases (s : State) : (∃ f, judgeFrame s = rxfPush f s) ∨ judgeFrame s = countBadFrame s := by
  unfold judgeFrame
  split
  · exact .inl ⟨_, rfl⟩
  · exact .inr rfl

@[simp] theorem checkEffect_st (s : State) : (checkEffect s).st = .waitHeader := rfl
@[simp] theorem checkEffect_candValid (s : State) : (checkEffect s).candValid = false := rfl

/-- A record at most joins the queue; ring, position and collection stay. -/
theorem checkEffect_frame (s : State) :
    (checkEffect s).cfg = s.cfg ∧ (checkEffect s).rxBase = s.rxBase ∧ (checkEffect s).rx = s.rx ∧
      (checkEffect s).cur = s.cur ∧ (checkEffect s).collecting = s.collecting := by
  unfold checkEffect
  rcases judgeFrame_cases s with ⟨f, e⟩ | e <;> rw [e] <;> exact ⟨rfl, rfl, rfl, rfl, rfl⟩

theorem checkEffect_rxf_length (s : State) : (checkEffect s).rxf.length ≤ s.rxf.length + 1 := by
  unfold checkEffect
  rcases judgeFrame_cases s with ⟨f, e⟩ | e <;> rw [e] <;> simp

end Sys2Proof.Proofs
end

section
/-! PROOFS. A closure comes to rest: a measure that every step of RXSYNC lowers (R190). -/

namespace Sys2Proof.Proofs

open Sys2Proof.Machine Sys2Proof.Laws

variable {s t : State}

@[simp] theorem collected_cfg (s : State) : (collected s).cfg = s.cfg := rfl
@[simp] theorem collected_rxBase (s : State) : (collected s).rxBase = s.rxBase := rfl
@[simp] theorem collected_rx (s : State) : (collected s).rx = s.rx := rfl
@[simp] theorem collected_st (s : State) : (collected s).st = s.st := rfl
@[simp] theorem collected_collecting (s : State) : (collected s).collecting = s.collecting := rfl
@[simp] theorem collected_cur (s : State) : (collected s).cur = s.cur + s.cfg.sym := rfl
@[simp] theorem collected_saved (s : State) : (collected s).saved = s.saved := rfl

/-- The positions of R47 hold inside a closure: no step moves one out of the ring. -/
theorem RingPositions_turn (h : RingPositions s) (m : SyncTurn s t) : RingPositions t := by
  obtain ⟨⟨hpre, hsym⟩, ⟨hlow, hhigh⟩, hcandidate, hsaved⟩ := h
  cases m with
  | confirmed hst hidle hfits hcand hpos =>
    have := hcandidate hcand hst
    refine ⟨⟨hpre, hsym⟩, ?_, nofun, fun _ => by simp⟩
    simp [State.rxWr] at *
  | kept hst hidle hfits hcand hpos =>
    have := hcandidate hcand hst
    refine ⟨⟨hpre, hsym⟩, ?_, fun _ _ => ?_, by simp [hst]⟩ <;> simp [State.rxWr] at * <;> omega
  | replaced hst hidle hfits =>
    refine ⟨⟨hpre, hsym⟩, ?_, fun _ _ => by simp, by simp [hst]⟩
    simp [State.rxWr] at *; omega
  | passed hst hidle hfits hcand =>
    refine ⟨⟨hpre, hsym⟩, ?_, by simp [hcand], by simp [hst]⟩
    simp [State.rxWr] at *
  | lengthGrown hst hon hfits | lengthFull hst hon hfits =>
    have := hsaved (.inl hst)
    refine ⟨⟨hpre, hsym⟩, ?_, by simp [hst], fun _ => ?_⟩ <;> simp [State.rxWr] at * <;> omega
  | bodyGrown hst hon hfits | bodyFull hst hon hfits =>
    refine ⟨⟨hpre, hsym⟩, ?_, by simp [hst], by simp [hst, hon]⟩
    simp [State.rxWr] at *
  | rejected hst hidle =>
    have := hsaved (.inr ⟨hst, hidle⟩)
    refine ⟨⟨hpre, hsym⟩, ?_, nofun, by simp⟩
    simp [State.rxWr] at *; omega
  | accepted v hst hidle =>
    refine ⟨⟨hpre, hsym⟩, ?_, by simp [hst], by simp [hst]⟩
    simp [State.rxWr] at *
  | checked hst hidle =>
    obtain ⟨hcfg, hbase, hrx, hcur, -⟩ := checkEffect_frame s
    refine ⟨hcfg ▸ ⟨hpre, hsym⟩, ?_, nofun, by simp⟩
    rw [State.rxWr, hbase, hrx, hcur]; exact ⟨hlow, hhigh⟩

/-- How many steps RXSYNC can take until it has to confirm a candidate: the samples beyond `cur`, and from a state of the
length field or before `INTERPRET` also those of the ring, to which a rejected length rewinds (R170). -/
def turnsLeft (s : State) : Nat :=
  match s.st with
  | .waitHeader => s.rxWr - s.cur
  | .getLength => s.rx.length + 2 + (s.rxWr - s.cur)
  | .getPayload => if s.collecting then s.rxWr - s.cur + 1 else s.rx.length + 2
  | .checkPayload => s.rxWr - s.cur + 1

/-- A measure of the steps before rest: a confirmation discards a sample for good and starts `turnsLeft` afresh. -/
def closureRank (s : State) : Nat := s.rx.length * (s.rx.length + 3) + turnsLeft s

theorem closureRank_lt_of_turnsLeft (hring : t.rx.length ≤ s.rx.length) (h : turnsLeft t < turnsLeft s) :
    closureRank t < closureRank s := by
  have := Nat.mul_le_mul hring (Nat.add_le_add_right hring 3)
  unfold closureRank
  omega

/-- A ring one sample shorter makes up for all of `turnsLeft`. -/
theorem ringRank_lt {r n : Nat} (h : r < n) : r * (r + 3) + (r + 2) < n * (n + 3) := by
  have := Nat.mul_le_mul h (Nat.add_le_add_right (Nat.succ_le_of_lt h) 3)
  nlinarith

theorem closureRank_confirm (hst : s.st = .waitHeader) (hpre : 1 ≤ s.cfg.preLen) (hcand : s.rxBase ≤ s.candPos)
    (hpos : s.cur = s.candPos + s.cfg.preLen) (hhigh : s.cur ≤ s.rxWr) :
    closureRank (confirm { s with cur := s.cur + 1 }) < closureRank s := by
  have shorter : s.rx.length - (s.cur - s.rxBase) < s.rx.length := by rw [State.rxWr] at hhigh; omega
  have := ringRank_lt shorter
  simp only [closureRank, turnsLeft, hst, State.rxWr, confirm_st, confirm_rx, confirm_rxBase, confirm_cur,
    List.length_drop, ← hpos] at *
  omega

/-- Every step of RXSYNC lowers the measure. -/
theorem closureRank_turn (h : RingPositions s) (m : SyncTurn s t) : closureRank t < closureRank s := by
  obtain ⟨⟨hpre, hsym⟩, ⟨hlow, hhigh⟩, hcandidate, hsaved⟩ := h
  cases m with
  | confirmed hst _ _ hcand hpos => exact closureRank_confirm hst hpre (hcandidate hcand hst).1 hpos hhigh
  | kept hst _ hfits hcand =>
    have := hcandidate hcand hst
    apply closureRank_lt_of_turnsLeft <;> simp [turnsLeft, State.rxWr, hst] at *; omega
  | replaced hst hmode hfits | passed hst hmode hfits | lengthGrown hst hmode hfits | lengthFull hst hmode hfits
  | bodyGrown hst hmode hfits | bodyFull hst hmode hfits =>
    apply closureRank_lt_of_turnsLeft <;> simp [turnsLeft, State.rxWr, hst, hmode] at *; omega
  | accepted _ hst hidle => apply closureRank_lt_of_turnsLeft <;> simp [turnsLeft, State.rxWr, hst, hidle] at *
  | rejected hst hidle =>
    have := hsaved (.inr ⟨hst, hidle⟩)
    apply closureRank_lt_of_turnsLeft <;> simp [turnsLeft, State.rxWr, hst, hidle] at *; omega
  | checked hst =>
    obtain ⟨-, hbase, hrx, hcur, -⟩ := checkEffect_frame s
    apply closureRank_lt_of_turnsLeft <;> simp [turnsLeft, State.rxWr, hst, hbase, hrx, hcur]

/-- A loop with as much fuel as the measure says runs until no step is enabled. -/
theorem closureLoop_rests {n : Nat} (h : RingPositions s) (hn : closureRank s ≤ n) :
    rxStep (closureLoop n s) = none := by
  induction n generalizing s with
  | zero =>
    refine Option.eq_none_iff_forall_ne_some.2 fun t ht => ?_
    have := closureRank_turn h (rxStep_turn h.lengths.1 ht)
    omega
  | succ n ih =>
    simp only [closureLoop]
    cases e : rxStep s with
    | none => exact e
    | some t =>
      have m := rxStep_turn h.lengths.1 e
      have := closureRank_turn h m
      exact ih (RingPositions_turn h m) (by omega)

theorem turnsLeft_le (h : s.rxBase ≤ s.cur) : turnsLeft s ≤ 2 * s.rx.length + 2 := by
  unfold turnsLeft State.rxWr
  split
  case h_3 => split <;> omega
  all_goals omega

/-- The fuel of a closure covers the measure (log 6). -/
theorem closureRank_le_fuel (h : s.rxBase ≤ s.cur) : closureRank s ≤ closureFuel s := by
  have := turnsLeft_le h
  unfold closureRank closureFuel
  nlinarith

/-- A closure ends with no step of RXSYNC enabled (R190). -/
theorem rxClosure_rests (h : RingPositions s) : rxStep (rxClosure s) = none :=
  closureLoop_rests h (closureRank_le_fuel h.cursor.1)

end Sys2Proof.Proofs
end

section
/-! PROOFS. The invariants (I1) to (I8) of R47: what holds of them inside a closure, at its end, and after every step. -/

namespace Sys2Proof.Proofs

open Sys2Proof.Machine Sys2Proof.Laws

variable {s t : State} {i : Instr}

/-! What `WF` says of the registers (R33). -/

/-- (W1) to (W10). -/
theorem wfRegs_iff (s : State) : s.wfRegs = true ↔
    (1 ≤ s.cfg.nCar ∧ s.cfg.nCar ≤ s.prm.nMax) ∧ (1 ≤ s.cfg.symLen ∧ s.cfg.symLen ≤ s.prm.sMax) ∧
    s.cfg.cpLen ≤ s.cfg.symLen ∧ (1 ≤ s.cfg.preLen ∧ s.cfg.preLen ≤ s.prm.pMax) ∧
    (1 ≤ s.cfg.lenBits ∧ s.cfg.lenBits ≤ s.prm.lMax) ∧
    (s.prm.ovh ≤ s.cfg.lenMin ∧ s.cfg.lenMin ≤ s.cfg.lenMax ∧ s.cfg.lenMax ≤ s.prm.bitbufCap) ∧
    (1 ≤ s.cfg.syncKdot ∧ 1 ≤ s.cfg.syncKen) ∧ (1 ≤ s.cfg.csWin ∧ s.cfg.csWin ≤ s.prm.csWinMax) ∧
    (s.cfg.csPow = 2 ∨ s.cfg.csPow = 4) ∧ s.cfg.thBusy ≤ s.cfg.thColl := by
  simp only [State.wfRegs, Bool.and_eq_true, decide_eq_true_eq, and_assoc]

/-- The quantities that the receiver counts with are not 0. -/
theorem positive_of_wfConfig (h : s.wfConfig = true) :
    1 ≤ s.cfg.nCar ∧ 1 ≤ s.cfg.sym ∧ 1 ≤ s.cfg.preLen ∧ 1 ≤ s.cfg.lenBits ∧ 1 ≤ s.cfg.lenMin := by
  obtain ⟨hregs, -⟩ := (wfConfig_iff s).1 h
  obtain ⟨⟨hcar, -⟩, ⟨hsym, -⟩, -, ⟨hpre, -⟩, ⟨hlen, -⟩, ⟨hmin, -⟩, -⟩ := (wfRegs_iff s).1 hregs
  have hovh : 16 ≤ s.prm.ovh := Nat.le_add_left _ _
  exact ⟨hcar, by simp only [CfgRegs.sym]; omega, hpre, hlen, by omega⟩

theorem lt_ceilDiv_iff {a b m : Nat} (hb : 1 ≤ b) : m < ceilDiv a b ↔ m * b < a := by
  rw [ceilDiv, Nat.lt_iff_add_one_le, Nat.le_div_iff_mul_le hb, Nat.succ_mul]
  omega

/-- Steps of RXSYNC move nothing that `WF` and the energies are made of. -/
theorem wfConfig_move (m : ReceiverMove s t) : t.wfConfig = s.wfConfig := (congrArg State.wfConfig m.frame :)

theorem energies_move (m : ReceiverMove s t) : t.energies = s.energies := (congrArg State.energies m.frame :)

/-! Inside a closure. -/

/-- What R47 says of an enabled block inside a closure: (I1) to (I8) without the bounds that hold because no step is
enabled, and with the state in which `INTERPRET` is. -/
structure SyncInv (s : State) : Prop where
  wf : s.wfConfig = true
  ring : s.rxBase ≤ s.cur ∧ s.cur ≤ s.rxWr ∧ s.rx.length ≤ s.prm.rxqCap
  waitHeader : s.st = .waitHeader →
    s.collecting = false ∧
      if s.candValid then s.rxBase = s.candPos ∧ s.cur ≤ s.candPos + s.cfg.preLen else s.rxBase = s.cur
  getLength : s.st = .getLength →
    s.collecting = true ∧ s.rxBase = s.saved ∧ s.need = s.cfg.lenBits ∧
      ∃ m, m < s.cfg.nsymL ∧ s.cur = s.saved + m * s.cfg.sym ∧ s.bitbuf.length = m * s.cfg.nCar
  interpret : s.st = .getPayload → s.collecting = false → s.rxBase = s.saved
  body : s.st = .getPayload → s.collecting = true →
    s.rxBase = s.cur ∧ s.need = s.lenVal ∧ s.cfg.lenMin ≤ s.lenVal ∧ s.lenVal ≤ s.cfg.lenMax ∧
      s.bitbuf.length < s.need
  checkPayload : s.st = .checkPayload → s.collecting = false ∧ s.bitbuf.length = s.lenVal ∧ s.rxBase = s.cur
  candidate : s.candValid = true → s.st = .waitHeader
  capacities : s.txq.length ≤ s.prm.txqCap ∧ s.rxf.length ≤ s.prm.rxfCap

theorem SyncInv_of_blockInv (h : BlockInv s) (hen : s.en = true) : SyncInv s where
  wf := (h.enabled hen).1
  ring := h.ring
  waitHeader := fun hst =>
    let ⟨hidle, _, hcand⟩ := h.waitHeader hen hst
    ⟨hidle, hcand⟩
  getLength := fun hst =>
    let ⟨hon, hbase, hneed, _, hm⟩ := h.getLength hst
    ⟨hon, hbase, hneed, hm⟩
  interpret := fun hst hidle => nomatch hidle.symm.trans (h.getPayload hst).1
  body := fun hst _ =>
    let ⟨_, hbase, hneed, hmin, hmax, hpart, _⟩ := h.getPayload hst
    ⟨hbase, hneed, hmin, hmax, hpart⟩
  checkPayload := fun hst =>
    let ⟨hidle, hlen, hbase, _⟩ := h.checkPayload hst
    ⟨hidle, hlen, hbase⟩
  candidate := h.candidate
  capacities := h.capacities

theorem RingPositions_of_syncInv (h : SyncInv s) : RingPositions s where
  lengths := let ⟨_, hsym, hpre, _, _⟩ := positive_of_wfConfig h.wf; ⟨hpre, hsym⟩
  cursor := ⟨h.ring.1, h.ring.2.1⟩
  candidate := fun hcand hst => by
    obtain ⟨-, hpos⟩ := h.waitHeader hst
    rw [if_pos hcand] at hpos
    have := h.ring.1
    omega
  saved := fun hst => by
    have hbase : s.rxBase = s.saved := hst.elim (fun hl => (h.getLength hl).2.1) fun hp => h.interpret hp.1 hp.2
    exact ⟨hbase.le, hbase ▸ h.ring.1⟩

section phases

/-! In each state of the synchroniser only the clauses of that state are to be shown. -/

variable (hwf : s.wfConfig = true) (hring : s.rxBase ≤ s.cur ∧ s.cur ≤ s.rxWr ∧ s.rx.length ≤ s.prm.rxqCap)
  (hcap : s.txq.length ≤ s.prm.txqCap ∧ s.rxf.length ≤ s.prm.rxfCap)

include hwf hring hcap

theorem SyncInv_scanning (hst : s.st = .waitHeader) (hidle : s.collecting = false)
    (hcand : if s.candValid then s.rxBase = s.candPos ∧ s.cur ≤ s.candPos + s.cfg.preLen else s.rxBase = s.cur) :
    SyncInv s where
  wf := hwf
  ring := hring
  waitHeader := fun _ => ⟨hidle, hcand⟩
  getLength := fun e => nomatch hst.symm.trans e
  interpret := fun e => nomatch hst.symm.trans e
  body := fun e => nomatch hst.symm.trans e
  checkPayload := fun e => nomatch hst.symm.trans e
  candidate := fun _ => hst
  capacities := hcap

theorem SyncInv_length (hst : s.st = .getLength) (hon : s.collecting = true) (hcand : s.candValid = false)
    (hbase : s.rxBase = s.saved) (hneed : s.need = s.cfg.lenBits) {m : Nat} (hm : m < s.cfg.nsymL)
    (hcur : s.cur = s.saved + m * s.cfg.sym) (hbits : s.bitbuf.length = m * s.cfg.nCar) : SyncInv s where
  wf := hwf
  ring := hring
  waitHeader := fun e => nomatch hst.symm.trans e
  getLength := fun _ => ⟨hon, hbase, hneed, m, hm, hcur, hbits⟩
  interpret := fun e => nomatch hst.symm.trans e
  body := fun e => nomatch hst.symm.trans e
  checkPayload := fun e => nomatch hst.symm.trans e
  candidate := fun e => nomatch hcand.symm.trans e
  capacities := hcap

theorem SyncInv_interpreting (hst : s.st = .getPayload) (hidle : s.collecting = false) (hcand : s.candValid = false)
    (hbase : s.rxBase = s.saved) : SyncInv s where
  wf := hwf
  ring := hring
  waitHeader := fun e => nomatch hst.symm.trans e
  getLength := fun e => nomatch hst.symm.trans e
  interpret := fun _ _ => hbase
  body := fun _ e => nomatch hidle.symm.trans e
  checkPayload := fun e => nomatch hst.symm.trans e
  candidate := fun e => nomatch hcand.symm.trans e
  capacities := hcap

theorem SyncInv_body (hst : s.st = .getPayload) (hon : s.collecting = true) (hcand : s.candValid = false)
    (hbase : s.rxBase = s.cur) (hneed : s.need = s.lenVal)
    (hlimits : s.cfg.lenMin ≤ s.lenVal ∧ s.lenVal ≤ s.cfg.lenMax) (hpart : s.bitbuf.length < s.need) : SyncInv s where
  wf := hwf
  ring := hring
  waitHeader := fun e => nomatch hst.symm.trans e
  getLength := fun e => nomatch hst.symm.trans e
  interpret := fun _ e => nomatch hon.symm.trans e
  body := fun _ _ => ⟨hbase, hneed, hlimits.1, hlimits.2, hpart⟩
  checkPayload := fun e => nomatch hst.symm.trans e
  candidate := fun e => nomatch hcand.symm.trans e
  capacities := hcap

theorem SyncInv_checking (hst : s.st = .checkPayload) (hidle : s.collecting = false) (hcand : s.candValid = false)
    (hbits : s.bitbuf.length = s.lenVal) (hbase : s.rxBase = s.cur) : SyncInv s where
  wf := hwf
  ring := hring
  waitHeader := fun e => nomatch hst.symm.trans e
  getLength := fun e => nomatch hst.symm.trans e
  interpret := fun e => nomatch hst.symm.trans e
  body := fun e => nomatch hst.symm.trans e
  checkPayload := fun _ => ⟨hidle, hbits, hbase⟩
  candidate := fun e => nomatch hcand.symm.trans e
  capacities := hcap

end phases

theorem candValid_false_of_syncInv (h : SyncInv s) (hst : s.st ≠ .waitHeader) : s.candValid = false :=
  Bool.eq_false_of_not_eq_true fun e => hst (h.candidate e)

/-- A `COLLECT` fills the group or adds a bit for each carrier (R174). -/
theorem length_collected_bitbuf (h : s.bitbuf.length ≤ s.need) :
    (collected s).bitbuf.length = min s.need (s.bitbuf.length + s.cfg.nCar) := by
  simp only [collected, List.length_append, length_newBits]
  omega

/-- Every step of RXSYNC keeps what R47 says inside a closure. -/
theorem SyncInv_turn (h : SyncInv s) (move : ReceiverMove s t) (m : SyncTurn s t) : SyncInv t := by
  have hwf : t.wfConfig = true := (wfConfig_move move).trans h.wf
  have hring : t.rxBase ≤ t.cur ∧ t.cur ≤ t.rxWr ∧ t.rx.length ≤ t.prm.rxqCap :=
    have pos := RingPositions_turn (RingPositions_of_syncInv h) m
    ⟨pos.cursor.1, pos.cursor.2, move.prm ▸ move.ring.length_le.trans h.ring.2.2⟩
  obtain ⟨hcar, -, hpre, hlen, hmin⟩ := positive_of_wfConfig h.wf
  cases m with
  | confirmed hst =>
    exact SyncInv_length hwf hring h.capacities rfl rfl rfl rfl rfl (m := 0)
      ((lt_ceilDiv_iff hcar).2 (by rwa [Nat.zero_mul])) (by simp) (by simp)
  | kept hst hidle _ hcand hpos =>
    obtain ⟨-, hwait⟩ := h.waitHeader hst
    rw [if_pos hcand] at hwait
    exact SyncInv_scanning hwf hring h.capacities hst hidle (by simp [hcand]; omega)
  | replaced hst hidle => exact SyncInv_scanning hwf hring h.capacities hst hidle (by simpa using hpre)
  | passed hst hidle _ hcand => exact SyncInv_scanning hwf hring h.capacities hst hidle (by simp [hcand])
  | lengthGrown hst hon _ hpart =>
    obtain ⟨-, hbase, hneed, m, hm, hcur, hbits⟩ := h.getLength hst
    have hcand := candValid_false_of_syncInv h (by simp [hst])
    have hmore : m * s.cfg.nCar < s.cfg.lenBits := (lt_ceilDiv_iff hcar).1 hm
    have hgrown := length_collected_bitbuf (s := s) (by omega)
    have hnext : (collected s).bitbuf.length = (m + 1) * s.cfg.nCar := by rw [Nat.succ_mul]; omega
    refine SyncInv_length hwf hring h.capacities hst hon hcand hbase hneed ((lt_ceilDiv_iff hcar).2 ?_) ?_ hnext
    · rw [collected_cfg, ← hnext]; omega
    · simp only [collected_cur, collected_saved, collected_cfg, Nat.succ_mul]; omega
  | lengthFull hst =>
    obtain ⟨-, hbase, -⟩ := h.getLength hst
    have hcand := candValid_false_of_syncInv h (by simp [hst])
    exact SyncInv_interpreting hwf hring h.capacities rfl rfl hcand hbase
  | bodyGrown hst hon _ hpart =>
    obtain ⟨-, hneed, hvmin, hvmax, hfew⟩ := h.body hst hon
    have hcand := candValid_false_of_syncInv h (by simp [hst])
    have hgrown := length_collected_bitbuf hfew.le
    exact SyncInv_body hwf hring h.capacities hst hon hcand rfl hneed ⟨hvmin, hvmax⟩
      (lt_of_le_of_ne (hgrown ▸ min_le_left _ _) hpart)
  | bodyFull hst hon _ hfull =>
    obtain ⟨-, hneed, -⟩ := h.body hst hon
    have hcand := candValid_false_of_syncInv h (by simp [hst])
    exact SyncInv_checking hwf hring h.capacities rfl rfl hcand (hfull.trans hneed) rfl
  | rejected hst hidle =>
    exact SyncInv_scanning hwf hring h.capacities rfl hidle (by simpa using h.interpret hst hidle)
  | accepted v hst hidle hvmin hvmax =>
    have hcand := candValid_false_of_syncInv h (by simp [hst])
    exact SyncInv_body hwf hring h.capacities hst rfl hcand rfl rfl ⟨hvmin, hvmax⟩ (by simp; omega)
  | checked hst hidle hroom =>
    obtain ⟨-, -, hbase⟩ := h.checkPayload hst
    obtain ⟨-, hbase', -, hcur, hidle'⟩ := checkEffect_frame s
    have hrxf := checkEffect_rxf_length s
    refine SyncInv_scanning hwf hring ?_ rfl (hidle'.trans hidle) (by simpa [hbase', hcur] using hbase)
    rw [move.txq, move.prm]; exact ⟨h.capacities.1, by omega⟩

/-- The closure keeps what R47 says inside it. -/
theorem SyncInv_closure (h : SyncInv s) : SyncInv (rxClosure s) :=
  rxClosure_keeps (fun _ _ h e =>
    SyncInv_turn h (rxStep_move e) (rxStep_turn (RingPositions_of_syncInv h).lengths.1 e)) s h

/-! At the end of a closure. -/

section rest

variable (hrest : rxStep s = none) (hen : s.en = true) (hf : s.fault = false)

include hrest hen hf

theorem few_samples_of_scan_rests (hst : s.st = .waitHeader) (hidle : s.collecting = false) (hlow : s.rxBase ≤ s.cur) :
    s.rxWr < s.cur + s.cfg.preLen := by
  simpa [rxStep, scanStep, State.selects, State.selector, State.present, RxState.code, hst, hidle, hen, hf, hlow]
    using hrest

theorem few_samples_of_collect_rests (hst : s.st = .getLength ∨ s.st = .getPayload) (hon : s.collecting = true)
    (hlow : s.rxBase ≤ s.cur) : s.rxWr < s.cur + s.cfg.sym := by
  rcases hst with hst | hst <;>
    simpa [rxStep, collectStep, State.selects, State.selector, State.present, RxState.code, CollectPhase.selector, hst,
      hon, hen, hf, hlow] using hrest

theorem collecting_of_rests (hst : s.st = .getPayload) : s.collecting = true := by
  refine Bool.eq_true_of_not_eq_false fun hidle => ?_
  simp [rxStep, interpretStep, State.selects, State.selector, RxState.code, hst, hidle, hen, hf] at hrest

theorem queue_full_of_check_rests (hst : s.st = .checkPayload) (hidle : s.collecting = false) :
    s.prm.rxfCap ≤ s.rxf.length := by
  simpa [rxStep, checkStep, State.selects, State.selector, RxState.code, hst, hidle, hen, hf] using hrest

/-- Where no step is enabled, what holds inside a closure is R47. -/
theorem BlockInv_of_syncInv (h : SyncInv s) (henergy : s.energy = s.energies) : BlockInv s where
  disabled := fun e => nomatch hen.symm.trans e
  enabled := fun _ => ⟨h.wf, henergy⟩
  ring := h.ring
  waitHeader := fun _ hst =>
    let ⟨hidle, hcand⟩ := h.waitHeader hst
    ⟨hidle, few_samples_of_scan_rests hrest hen hf hst hidle h.ring.1, hcand⟩
  getLength := fun hst =>
    let ⟨hon, hbase, hneed, hm⟩ := h.getLength hst
    ⟨hon, hbase, hneed, few_samples_of_collect_rests hrest hen hf (.inl hst) hon h.ring.1, hm⟩
  getPayload := fun hst =>
    let hon := collecting_of_rests hrest hen hf hst
    let ⟨hbase, hneed, hmin, hmax, hpart⟩ := h.body hst hon
    ⟨hon, hbase, hneed, hmin, hmax, hpart, few_samples_of_collect_rests hrest hen hf (.inr hst) hon h.ring.1⟩
  checkPayload := fun hst =>
    let ⟨hidle, hlen, hbase⟩ := h.checkPayload hst
    ⟨hidle, hlen, hbase, h.capacities.2.antisymm (queue_full_of_check_rests hrest hen hf hst hidle)⟩
  candidate := h.candidate
  capacities := h.capacities

end rest

/-- A closure leads from a state with the invariants of its inside to one of R47. -/
theorem BlockInv_rxClosure (h : SyncInv s) (hen : s.en = true) (hf : s.fault = false)
    (henergy : s.energy = s.energies) : BlockInv (rxClosure s) :=
  have move := rxClosure_move s
  BlockInv_of_syncInv (rxClosure_rests (RingPositions_of_syncInv h)) (move.en.trans hen) (move.fault.trans hf)
    (SyncInv_closure h) (move.energy.trans (henergy.trans (energies_move move).symm))

/-! Between operations. -/

/-- The elements that the invariants do not speak of: the fault registers, the sample output and the ports. -/
theorem BlockInv_outside (h : BlockInv s) (fault : Bool) (code : BitVec 8) (y : Sample) (ports : Ports) :
    BlockInv { s with fault := fault, faultCode := code, sampleOut := y, ports := ports } where
  disabled := fun hen =>
    let ⟨flags, energy, queues, ring, sequencing, candidate, bits, carrier, counter⟩ := h.disabled hen
    ⟨flags, energy, queues, ring, sequencing, candidate, bits, carrier, counter⟩
  enabled := h.enabled
  ring := h.ring
  waitHeader := h.waitHeader
  getLength := h.getLength
  getPayload := h.getPayload
  checkPayload := h.checkPayload
  candidate := h.candidate
  capacities := h.capacities

/-- A disabled block has nothing but its datapath at reset to show (I7). -/
theorem BlockInv_of_datapathReset (hen : s.en = false) (h : DatapathReset s) : BlockInv s := by
  obtain ⟨htxq, hrxf⟩ := h.queues
  obtain ⟨hbase, hrx⟩ := h.ring
  obtain ⟨hst, -, hcur, -⟩ := h.sequencing
  obtain ⟨hcand, -⟩ := h.candidate
  refine ⟨fun _ => h, ?_, ?_, ?_, ?_, ?_, ?_, fun _ => hst, ?_⟩ <;> simp [State.rxWr, *]

theorem DatapathReset_resetOf (p : Params) : DatapathReset (State.resetOf p) where
  flags := ⟨rfl, rfl⟩
  energy := rfl
  queues := ⟨rfl, rfl⟩
  ring := ⟨rfl, rfl⟩
  sequencing := ⟨rfl, rfl, rfl, rfl⟩
  candidate := ⟨rfl, rfl, rfl, rfl⟩
  bits := ⟨rfl, rfl, rfl⟩
  carrier := ⟨rfl, rfl⟩
  counter := rfl

theorem BlockInv_resetOf (p : Params) : BlockInv (State.resetOf p) :=
  BlockInv_of_datapathReset rfl (DatapathReset_resetOf p)

/-- `ENABLE` finds the datapath at reset and starts the receiver at stream index 0 (R134). -/
theorem BlockInv_enableBlock (h : BlockInv s) (hen : s.en = false) (hwf : s.wfConfig = true) :
    BlockInv (enableBlock s) where
  disabled := nofun
  enabled := fun _ => ⟨hwf, rfl⟩
  ring := h.ring
  waitHeader := fun _ _ => by
    obtain ⟨-, -, -, ⟨hbase, hrx⟩, ⟨-, hidle, hcur, -⟩, ⟨hcand, -⟩, -⟩ := h.disabled hen
    obtain ⟨-, -, hpre, -⟩ := positive_of_wfConfig hwf
    simp [State.rxWr, *]; omega
  getLength := h.getLength
  getPayload := h.getPayload
  checkPayload := h.checkPayload
  candidate := h.candidate
  capacities := h.capacities

/-- Of the transmit queue of an enabled block the invariants ask its bound only (I8). -/
theorem BlockInv_txq (h : BlockInv s) (hen : s.en = true) (txq : List Sample)
    (hcap : txq.length ≤ s.prm.txqCap) : BlockInv { s with txq := txq } where
  disabled := fun e => nomatch hen.symm.trans e
  enabled := h.enabled
  ring := h.ring
  waitHeader := h.waitHeader
  getLength := h.getLength
  getPayload := h.getPayload
  checkPayload := h.checkPayload
  candidate := h.candidate
  capacities := ⟨hcap, h.capacities.2⟩

/-- `TX_ABORT` (R158): in a disabled block the queue is empty anyway. -/
theorem BlockInv_txqClear (h : BlockInv s) : BlockInv (txqClear s) := by
  cases hen : s.en with
  | true => exact BlockInv_txq h hen [] (Nat.zero_le _)
  | false =>
    obtain ⟨flags, energy, ⟨-, hrxf⟩, ring, sequencing, candidate, bits, carrier, counter⟩ := h.disabled hen
    exact BlockInv_of_datapathReset hen
      ⟨flags, energy, ⟨rfl, hrxf⟩, ring, sequencing, candidate, bits, carrier, counter⟩

/-- `CFG_WR` and `TBL_WR` reach a disabled block only, whose datapath they leave at reset (R32). -/
theorem BlockInv_configured (h : BlockInv s) (hen : s.en = false) (cfg : CfgRegs) (tbl : Memory) :
    BlockInv { s with cfg := cfg, tbl := tbl } :=
  let ⟨flags, energy, queues, ring, sequencing, candidate, bits, carrier, counter⟩ := h.disabled hen
  BlockInv_of_datapathReset hen ⟨flags, energy, queues, ring, sequencing, candidate, bits, carrier, counter⟩

/-- The pushed sample has room in the ring; nothing else that a closure is about has changed (R221). -/
theorem SyncInv_tickFront (h : SyncInv s) (hroom : s.rx.length ≠ s.prm.rxqCap) (x : Sample) :
    SyncInv (tickFront x s) where
  wf := h.wf
  ring := by
    obtain ⟨hlow, hhigh, hcap⟩ := h.ring
    simp [tickFront, State.rxWr] at *; omega
  waitHeader := h.waitHeader
  getLength := h.getLength
  interpret := h.interpret
  body := h.body
  checkPayload := h.checkPayload
  candidate := h.candidate
  capacities := by
    obtain ⟨htxq, hrxf⟩ := h.capacities
    simp [tickFront] at *; omega

/-- The popped frame makes room in the queue; nothing else that a closure is about has changed (R185). -/
theorem SyncInv_popFront (h : SyncInv s) : SyncInv (popFront s) where
  wf := h.wf
  ring := h.ring
  waitHeader := h.waitHeader
  getLength := h.getLength
  interpret := h.interpret
  body := h.body
  checkPayload := h.checkPayload
  candidate := h.candidate
  capacities := by
    obtain ⟨htxq, hrxf⟩ := h.capacities
    simp [popFront] at *; omega

/-- A disabled block does not step (R190). -/
theorem rxStep_eq_none_of_disabled (hen : s.en = false) : rxStep s = none :=
  Option.eq_none_iff_forall_ne_some.2 fun _ ht => nomatch hen.symm.trans (rxStep_cases ht).1

theorem BlockInv_popped (h : BlockInv s) (hf : s.fault = false) : BlockInv (rxClosure (popFront s)) := by
  cases hen : s.en with
  | true => exact BlockInv_rxClosure (SyncInv_popFront (SyncInv_of_blockInv h hen)) hen hf (h.enabled hen).2
  | false =>
    obtain ⟨flags, energy, ⟨htxq, hrxf⟩, ring, sequencing, candidate, bits, carrier, counter⟩ := h.disabled hen
    rw [rxClosure_of_none (rxStep_eq_none_of_disabled (s := popFront s) hen)]
    exact BlockInv_of_datapathReset hen ⟨flags, energy, ⟨htxq, (congrArg List.tail hrxf).trans List.tail_nil⟩, ring,
      sequencing, candidate, bits, carrier, counter⟩

theorem BlockInv_ticked (h : BlockInv s) (hen : s.en = true) (hf : s.fault = false)
    (hroom : s.rx.length ≠ s.prm.rxqCap) (x : Sample) : BlockInv (rxClosure (tickFront x s)) :=
  BlockInv_rxClosure (SyncInv_tickFront (SyncInv_of_blockInv h hen) hroom x) hen hf (h.enabled hen).2

theorem BlockInv_effect (h : BlockInv s) (e : Effect s i t) : BlockInv t := by
  cases e with
  | idle => exact h
  | raised | answered | idleTick | overflowTick => exact BlockInv_outside h _ _ _ _
  | reset => exact BlockInv_outside (BlockInv_resetOf s.prm) false 0 0 s.ports
  | enabled _ hen hwf => exact BlockInv_enableBlock h hen hwf
  | registerWritten _ _ _ _ _ hen => exact BlockInv_configured h hen _ s.tbl
  | entryWritten _ _ _ _ _ _ _ hen => exact BlockInv_configured h hen s.cfg _
  | frameQueued _ _ _ hdr pay _ hen hroom => exact BlockInv_txq h hen _ (by rwa [List.length_append])
  | aborted => exact BlockInv_txqClear h
  | popped hf => exact BlockInv_popped h hf
  | ticked x hen hf hroom => exact BlockInv_outside (BlockInv_ticked h hen hf hroom x) _ _ _ _
  | synced _ _ _ hstep => nomatch hstep.symm.trans (rxStep_eq_none_of_blockInv h)

/-- Settles O57: between operations RXSYNC rests, a `TICK` or an `RX_POP` leads through a closure that ends at rest, and
every other effect leaves the receiver alone or resets it. -/
theorem stepKeepsReceiverInvariants : Obligations.StepKeepsReceiverInvariants := by
  intro s t h hstep
  have taken : ∀ rest, BlockInv (setInput rest s) := fun _ => BlockInv_outside h _ _ _ _
  rcases step_effect hstep with rfl | ⟨_, rest, -, e⟩ | ⟨rest, rfl⟩ | ⟨rest, rfl⟩
  · exact h
  · exact BlockInv_effect (taken rest) e
  · exact taken rest
  · exact BlockInv_outside h _ _ _ _

end Sys2Proof.Proofs
end

section
/-! PROOFS. The carrier-sense detector: the sliding sum is the power of the window (R44, R212, R213). -/

namespace Sys2Proof.Proofs

open Sys2Proof.Machine Sys2Proof.Laws

variable {s t : State} {i : Instr}

/-! The window before and after an update (R212). -/

/-- The newest `CS_WIN - 1` samples of the delay line: those that stay in the window. -/
def windowRest (s : State) : List Sample := s.csHist.take (s.cfg.csWin - 1)

/-- The window is what stays of it and the sample that leaves it. -/
theorem windowPower_eq_rest_add_old (hlow : 1 ≤ s.cfg.csWin) (hhigh : s.cfg.csWin ≤ s.csHist.length) :
    windowPower s = ((windowRest s).map (pw s.cfg)).sum + pw s.cfg s.csOld := by
  have hin : s.cfg.csWin - 1 < s.csHist.length := by omega
  have hwindow : s.csHist.take s.cfg.csWin = windowRest s ++ [s.csOld] := by
    rw [windowRest, State.csOld, List.getD_eq_getElem _ _ hin, List.take_append_getElem, Nat.sub_add_cancel hlow]
  simp [windowPower, hwindow]

/-- The window after an update is the new sample and what stayed. -/
theorem windowPower_carrierSense (hlow : 1 ≤ s.cfg.csWin) (hhigh : s.cfg.csWin ≤ s.csHist.length) (x : Sample) :
    windowPower (carrierSense x s) = pw s.cfg x + ((windowRest s).map (pw s.cfg)).sum := by
  obtain ⟨n, hn⟩ := Nat.exists_eq_add_of_le' hlow
  have hlen : n ≤ s.csHist.length := by omega
  simp [windowPower, windowRest, hn, hlen]

/-- The update of the sum follows the window (R213). -/
theorem csNext_eq_windowPower (hlow : 1 ≤ s.cfg.csWin) (hhigh : s.cfg.csWin ≤ s.csHist.length)
    (hsum : s.csSum = windowPower s) (x : Sample) : s.csNext x = windowPower (carrierSense x s) := by
  rw [State.csNext, hsum, windowPower_eq_rest_add_old hlow hhigh, windowPower_carrierSense hlow hhigh]
  ring

theorem length_csHist_carrierSense (hlow : 1 ≤ s.cfg.csWin) (hhigh : s.cfg.csWin ≤ s.csHist.length) (x : Sample) :
    (carrierSense x s).csHist.length = s.csHist.length := by
  simp only [carrierSense_csHist, List.length_cons, List.length_append, List.length_take, List.length_drop]
  omega

/-- A window of zeros has no power. -/
theorem windowPower_of_zeros {n : Nat} (hpow : s.cfg.csPow ≠ 0) (hzero : s.csHist = List.replicate n 0) :
    windowPower s = 0 := by
  simp [windowPower, hzero, pw, hpow]

/-- No threshold is below a sum of 0 (R212). -/
theorem above_zero (threshold : Nat) : above 0 threshold = false := by simp [above]

/-! The invariant, one rule per change of the state. -/

/-- Changes that touch none of the elements that the invariant speaks of. -/
theorem CarrierInv_congr (h : CarrierInv s) (hprm : t.prm = s.prm) (hen : t.en = s.en) (hcfg : t.cfg = s.cfg)
    (hhist : t.csHist = s.csHist) (hsum : t.csSum = s.csSum) (hbusy : t.busy = s.busy)
    (hcoll : t.collision = s.collision) : CarrierInv t where
  delayLine := by rw [hhist, hprm]; exact h.delayLine
  disabled := by rw [hen, hhist, hprm, hsum, hbusy, hcoll]; exact h.disabled
  enabled := by
    have hpower : windowPower t = windowPower s := by rw [windowPower, hhist, hcfg, windowPower]
    rw [hen, hcfg, hprm, hsum, hpower, hbusy, hcoll]; exact h.enabled

theorem CarrierInv_move (h : CarrierInv s) (m : ReceiverMove s t) : CarrierInv t :=
  CarrierInv_congr h m.prm m.en m.cfg m.csHist (congrArg State.csSum m.frame :) (congrArg State.busy m.frame :)
    (congrArg State.collision m.frame :)

/-- Of a disabled block the detector is at its reset values, whatever the registers hold. -/
theorem CarrierInv_of_disabled (hen : s.en = false) (hhist : s.csHist = List.replicate s.prm.csWinMax 0)
    (hsum : s.csSum = 0) (hbusy : s.busy = false) (hcoll : s.collision = false) : CarrierInv s where
  delayLine := by rw [hhist, List.length_replicate]
  disabled := fun _ => ⟨hhist, hsum, hbusy, hcoll⟩
  enabled := fun e => nomatch hen.symm.trans e

theorem CarrierInv_resetOf (p : Params) : CarrierInv (State.resetOf p) := CarrierInv_of_disabled rfl rfl rfl rfl rfl

theorem CarrierInv_writeCfg (h : CarrierInv s) (hen : s.en = false) (idx v : Nat) : CarrierInv (writeCfg idx v s) :=
  let ⟨hhist, hsum, hbusy, hcoll⟩ := h.disabled hen
  CarrierInv_of_disabled hen hhist hsum hbusy hcoll

/-- `ENABLE` starts with a window of zeros, and (W8) puts the window into the delay line (R33, R134). -/
theorem CarrierInv_enableBlock (h : CarrierInv s) (hen : s.en = false) (hwf : s.wfConfig = true) :
    CarrierInv (enableBlock s) where
  delayLine := h.delayLine
  disabled := nofun
  enabled := fun _ => by
    obtain ⟨hregs, -⟩ := (wfConfig_iff s).1 hwf
    obtain ⟨-, -, -, -, -, -, -, hwin, hpow, -⟩ := (wfRegs_iff s).1 hregs
    obtain ⟨hhist, hsum, hbusy, hcoll⟩ := h.disabled hen
    have hpower : windowPower (enableBlock s) = 0 := windowPower_of_zeros (show s.cfg.csPow ≠ 0 by omega) hhist
    simp [hwin, hpower, hsum, hbusy, hcoll, above_zero]

/-- The update keeps the closed form (R213). -/
theorem CarrierInv_carrierSense (h : CarrierInv s) (hen : s.en = true) (x : Sample) :
    CarrierInv (carrierSense x s) := by
  obtain ⟨⟨hlow, hhigh⟩, hsum, -⟩ := h.enabled hen
  rw [← h.delayLine] at hhigh
  exact ⟨(length_csHist_carrierSense hlow hhigh x).trans h.delayLine, (fun e => nomatch hen.symm.trans e),
    fun _ => ⟨(h.enabled hen).1, csNext_eq_windowPower hlow hhigh hsum x, rfl, rfl⟩⟩

theorem CarrierInv_effect (h : CarrierInv s) (e : Effect s i t) : CarrierInv t := by
  cases e with
  | idle => exact h
  | reset => exact CarrierInv_congr (CarrierInv_resetOf s.prm) rfl rfl rfl rfl rfl rfl rfl
  | enabled _ hen hwf => exact CarrierInv_enableBlock h hen hwf
  | registerWritten _ _ _ _ _ hen => exact CarrierInv_writeCfg h hen _ _
  | popped =>
    have front : CarrierInv (popFront s) := CarrierInv_congr h rfl rfl rfl rfl rfl rfl rfl
    exact CarrierInv_move front (popFront_move s)
  | ticked x hen =>
    have front : CarrierInv (tickFront x s) :=
      CarrierInv_congr (CarrierInv_carrierSense h hen x) rfl rfl rfl rfl rfl rfl rfl
    exact CarrierInv_congr (CarrierInv_move front (tickFront_move x s)) rfl rfl rfl rfl rfl rfl rfl
  | synced _ _ _ hstep => exact CarrierInv_move h (rxStep_move hstep)
  | _ => exact CarrierInv_congr h rfl rfl rfl rfl rfl rfl rfl

/-- Settles O58: a `TICK` of an enabled block slides the window, `ENABLE` starts it with zeros, and no other effect
touches the detector. -/
theorem stepKeepsCarrierSense : Obligations.StepKeepsCarrierSense := by
  intro s t h hstep
  have taken : ∀ rest, CarrierInv (setInput rest s) := fun _ => CarrierInv_congr h rfl rfl rfl rfl rfl rfl rfl
  rcases step_effect hstep with rfl | ⟨_, rest, -, e⟩ | ⟨rest, rfl⟩ | ⟨rest, rfl⟩
  · exact h
  · exact CarrierInv_effect (taken rest) e
  · exact taken rest
  · exact CarrierInv_congr h rfl rfl rfl rfl rfl rfl rfl

end Sys2Proof.Proofs
end

section
/-! PROOFS. The reset state, the register file, `STATUS`, and `WF` written out (R48, R31, R36, R33). -/

namespace Sys2Proof.Proofs

open Sys2Proof.Machine Sys2Proof.Laws Sys2Proof.Claims

variable {s : State}

/-! Registers (R31). -/

/-- Settles O21: a register read after a register write. -/
theorem cfgWrReadsBack : Obligations.CfgWrReadsBack := by
  intro c idx v h
  refine ⟨?_, fun j hj hne => ?_⟩
  · rw [CfgRegs_get_set c v h h, if_pos rfl]
  · rw [CfgRegs_get_set c v h hj, if_neg hne]

/-! `STATUS` (R36): every field has its place, and a field's value is below the weight of the next. -/

theorem RxState_code_lt (st : RxState) : st.code < 4 := by cases st <;> decide

theorem testBit_eq_of_div_mod {n k : Nat} {b : Bool} (h : n / 2 ^ k % 2 = b.toNat) : n.testBit k = b := by
  rw [Nat.testBit_eq_decide_div_mod_eq, h]
  cases b <;> rfl

/-- The digits of a sum of eight fields, as `STATUS` lays them out. -/
theorem statusWord_fields (s : State) :
    (s.statusWord / 2 ^ 0 % 2 = s.en.toNat ∧ s.statusWord / 2 ^ 1 % 2 = s.fault.toNat ∧
      s.statusWord / 2 ^ 2 % 2 = s.busy.toNat ∧ s.statusWord / 2 ^ 3 % 2 = s.collision.toNat ∧
      s.statusWord / 2 ^ 4 % 2 = s.rxfNe.toNat ∧ s.statusWord / 2 ^ 5 % 2 = s.txActive.toNat ∧
      s.statusWord / 2 ^ 6 % 2 = s.collecting.toNat ∧ s.statusWord / 2 ^ 7 % 2 = false.toNat) ∧
    s.statusWord / 2 ^ 8 % 4 = s.st.code ∧ s.statusWord / 2 ^ 10 % 2 ^ 6 = 0 ∧
    s.statusWord / 2 ^ 16 % 2 ^ 8 = s.faultCode.toNat ∧ s.statusWord < 2 ^ 24 := by
  have hen := s.en.toNat_le
  have hfault := s.fault.toNat_le
  have hbusy := s.busy.toNat_le
  have hcollision := s.collision.toNat_le
  have hrxf := s.rxfNe.toNat_le
  have htx := s.txActive.toNat_le
  have hcollecting := s.collecting.toNat_le
  have hst := RxState_code_lt s.st
  have hcode : s.faultCode.toNat < 2 ^ 8 := s.faultCode.isLt
  simp only [State.statusWord, Bool.toNat_false]
  omega

theorem rxfNe_eq (s : State) : s.rxfNe = decide (0 < s.rxf.length) := by
  cases h : s.rxf <;> simp [State.rxfNe, h]

theorem txActive_eq (s : State) : s.txActive = decide (0 < s.txq.length) := by
  cases h : s.txq <;> simp [State.txActive, h]

/-- The flag bits of `STATUS` (R36). -/
theorem statusWord_bits (s : State) :
    s.statusWord.testBit 0 = s.en ∧ s.statusWord.testBit 1 = s.fault ∧ s.statusWord.testBit 2 = s.busy ∧
      s.statusWord.testBit 3 = s.collision ∧ s.statusWord.testBit 4 = decide (0 < s.rxf.length) ∧
      s.statusWord.testBit 5 = decide (0 < s.txq.length) ∧ s.statusWord.testBit 6 = s.collecting ∧
      s.statusWord.testBit 7 = false := by
  obtain ⟨⟨b0, b1, b2, b3, b4, b5, b6, b7⟩, -⟩ := statusWord_fields s
  rw [← rxfNe_eq, ← txActive_eq]
  exact ⟨testBit_eq_of_div_mod b0, testBit_eq_of_div_mod b1, testBit_eq_of_div_mod b2, testBit_eq_of_div_mod b3,
    testBit_eq_of_div_mod b4, testBit_eq_of_div_mod b5, testBit_eq_of_div_mod b6, testBit_eq_of_div_mod b7⟩

/-- Settles O23: the digits of `STATUS`, and the level outputs as its bits. -/
theorem statusFieldsAndLevels : Obligations.StatusFieldsAndLevels := by
  intro s
  obtain ⟨-, hst, hreserved, hcode, hlt⟩ := statusWord_fields s
  obtain ⟨-, hfault, hbusy, hcollision, hframe, -⟩ := statusWord_bits s
  exact ⟨statusWord_bits s, hst, hreserved, hcode, hlt, hbusy, hcollision, hfault, hframe⟩

/-! Reset (R48). -/

theorem resetOf_levels (p : Params) :
    (State.resetOf p).levelBusy = false ∧ (State.resetOf p).levelCollision = false ∧
      (State.resetOf p).levelFault = false ∧ (State.resetOf p).levelFrameAvail = false := by
  obtain ⟨-, hfault, hbusy, hcollision, hframe, -⟩ := statusWord_bits (State.resetOf p)
  exact ⟨hbusy, hcollision, hfault, hframe⟩

/-- Settles O15: the reset columns, element by element; the level outputs are bits of `STATUS`. -/
theorem resetValues : Obligations.ResetValues := fun p =>
  ⟨⟨rfl, rfl, rfl, rfl, rfl⟩, rfl, fun _ _ => rfl,
    ⟨List.length_replicate, fun _ he => List.eq_of_mem_replicate he⟩,
    ⟨rfl, rfl, rfl, rfl, rfl, rfl, rfl⟩, ⟨rfl, rfl, rfl, rfl, rfl, rfl⟩, ⟨rfl, rfl, rfl⟩,
    ⟨List.length_replicate, fun _ hv => List.eq_of_mem_replicate hv, rfl, rfl⟩, rfl, resetOf_levels p⟩

theorem StorageInv_resetOf {p : Params} (h : p.valid = true) : StorageInv (State.resetOf p) where
  params := h
  tableForm := resetOf_tbl_wf p
  tableEntries := nofun
  registerWidths := fun _ _ hidx hw => CfgRegs_reset_get_lt hidx hw
  faultRecord := rfl
  counterWidth := Nat.two_pow_pos _

/-- `SRESET` makes the samples of the reset state, which has nothing else at its ports (R132). -/
theorem SampleInv_resetOf (p : Params) : SampleInv (State.resetOf p) := SampleInv_softReset (State.resetOf p)

/-- Settles O60: the four invariants of the reset state. -/
theorem resetMeetsTheInvariants : Obligations.ResetMeetsTheInvariants := fun p h =>
  ⟨StorageInv_resetOf h, BlockInv_resetOf p, CarrierInv_resetOf p, SampleInv_resetOf p⟩

/-! `WF` (R33), conjunct by conjunct. -/

theorem energyOf_eq_sum (l : List Sample) : (energyOf l : Int) = (l.map (· ^ 2)).sum := by
  induction l with
  | nil => rfl
  | cons v l ih =>
    have hsq : ((v.natAbs * v.natAbs : Nat) : Int) = v ^ 2 := by rw [Int.natAbs_mul_self, pow_two]
    simp only [energyOf, List.map_cons, List.sum_cons, Nat.cast_add, hsq] at ih ⊢
    rw [ih]

theorem energyOf_preWave (s : State) :
    (energyOf s.preWave : Int) = sumTo s.cfg.preLen fun i => s.tblSample 0 i ^ 2 := by
  rw [energyOf_eq_sum, State.preWave, State.tblRow, List.map_map]
  rfl

/-- (W11). -/
theorem wfWritten_iff (s : State) : s.wfWritten = true ↔
    (∀ i < s.cfg.preLen, s.tblEntry 0 i ≠ none) ∧
      ∀ c < s.cfg.nCar, ∀ b : Bool, ∀ i < s.cfg.symLen, s.tblEntry (1 + 2 * c + b.toNat) i ≠ none := by
  simp [State.wfWritten, rowWritten_iff, Option.isSome_iff_ne_none, basRow]

/-- (W12). -/
theorem wfPreamble_iff (s : State) :
    s.wfPreamble = true ↔ 0 < sumTo s.cfg.preLen fun i => s.tblSample 0 i ^ 2 := by
  rw [State.wfPreamble, decide_eq_true_iff, ← energyOf_preWave, Int.natCast_pos]

/-- The bound of (W13) as a sum over the integers. -/
theorem sum_carrierPeak (s : State) (i : Nat) :
    ((((List.range s.cfg.nCar).map fun c => s.carrierPeak c i).sum : Nat) : Int) =
      sumTo s.cfg.nCar fun c => max |bas s c false i| |bas s c true i| := by
  rw [Nat.cast_list_sum, List.map_map, sumTo]
  congr 2
  funext c
  simp [State.carrierPeak, bas, basRow]

/-- (W13). -/
theorem wfPeak_iff (s : State) : s.wfPeak = true ↔
    ∀ i < s.cfg.symLen,
      sumTo s.cfg.nCar (fun c => max |bas s c false i| |bas s c true i|) ≤ 2 ^ (s.prm.sw - 1) - 1 := by
  simp only [State.wfPeak, List.all_eq_true, List.mem_range, decide_eq_true_eq, sum_carrierPeak, Params.smax]

/-- (W14) and (W15). -/
theorem wfQueues_iff (s : State) : s.wfQueues = true ↔
    max (2 * s.cfg.preLen) ((s.cfg.lenBits + s.cfg.nCar - 1) / s.cfg.nCar * (s.cfg.cpLen + s.cfg.symLen)) ≤
      s.prm.rxqCap ∧
    s.cfg.preLen + ((s.cfg.lenBits + s.cfg.nCar - 1) / s.cfg.nCar + (s.cfg.lenMax + s.cfg.nCar - 1) / s.cfg.nCar) *
      (s.cfg.cpLen + s.cfg.symLen) ≤ s.prm.txqCap := by
  rw [State.wfQueues, Bool.and_eq_true, decide_eq_true_iff, decide_eq_true_iff]
  rfl

/-- `ENABLE` of a configuration that is not well formed (R134). -/
theorem exec_enable_of_not_wfConfig (hf : s.fault = false) (hen : s.en = false) (hwf : s.wfConfig = false) :
    exec .enable s = .next (raiseFault .cfgInvalid s) := by
  simp [exec, execEnable, unlessFaulted, hf, hen, hwf]

/-- Settles O18: the five groups of `WF`, each written out. -/
theorem wellFormednessIsItsConjuncts : Obligations.WellFormednessIsItsConjuncts := by
  intro s
  refine ⟨?_, exec_enable_of_not_wfConfig⟩
  rw [wfConfig_iff, wfRegs_iff, wfWritten_iff, wfPreamble_iff, wfPeak_iff, wfQueues_iff]
  simp only [and_assoc]
  rfl

end Sys2Proof.Proofs
end

section
/-! PROOFS. The transmit side of a `TICK`: what leaves the sample port, and that the receiver and the detector do not read
it (R80, R83, R221). -/

namespace Sys2Proof.Proofs

open Sys2Proof.Machine Sys2Proof.Laws

variable {s t : State}

/-! The transmit queue at the sample port (R76, R80 (a)). -/

theorem ReceiverMove.ports (h : ReceiverMove s t) : t.ports = s.ports := (congrArg State.ports h.frame :)

/-- Every `TICK` answers, so that a run of `TICK`s goes on with the state it leaves. -/
theorem exists_exec_tick (x : Sample) (s : State) : ∃ t, exec (.tick x) s = .next t := ⟨_, rfl⟩

theorem afterTicks_cons {x : Sample} {xs : List Sample} (h : exec (.tick x) s = .next t) :
    afterTicks (x :: xs) s = afterTicks xs t := by
  rw [afterTicks, h]

/-- No `TICK` leaves the fault state (R232). -/
theorem exec_tick_keeps_fault {x : Sample} (h : exec (.tick x) s = .next t) (hf : s.fault = true) :
    t.fault = true := by
  rcases execTick_cases h with ⟨-, rfl⟩ | ⟨-, hoff, -⟩ | ⟨-, hoff, -⟩
  · exact hf
  · simp [hf] at hoff
  · simp [hf] at hoff

theorem afterTicks_keeps_fault (xs : List Sample) (hf : s.fault = true) : (afterTicks xs s).fault = true := by
  induction xs generalizing s with
  | nil => exact hf
  | cons x xs ih =>
    obtain ⟨t, ht⟩ := exists_exec_tick x s
    rw [afterTicks_cons ht]
    exact ih (exec_tick_keeps_fault ht hf)

/-- A `TICK` that does not fault returns the head of the queue, 0 for an empty one, and leaves the rest (R221). -/
theorem exec_tick_transmits {x : Sample} (h : exec (.tick x) s = .next t) (hen : s.en = true) (hf : t.fault = false) :
    t.en = true ∧ t.txq = s.txq.tail ∧ t.ports.smpOut = s.ports.smpOut ++ [s.txq.headD 0] := by
  rcases execTick_cases h with ⟨hoff | hoff, rfl⟩ | ⟨-, -, -, rfl⟩ | ⟨-, -, -, rfl⟩
  · simp [hen] at hoff
  · simp [hoff] at hf
  · simp at hf
  · have move := tickFront_move x s
    rw [tickEffect_eq]
    refine ⟨move.en.trans hen, move.txq, ?_⟩
    rw [putSample_ports, move.ports]
    rfl

/-- The first `n + 1` of a queue's samples and zeros after them: the head, then the first `n` of the rest. -/
theorem take_queue_succ (q : List Sample) (n : Nat) :
    (q ++ List.replicate (n + 1) 0).take (n + 1) = q.headD 0 :: (q.tail ++ List.replicate n 0).take n := by
  cases q with
  | nil => simp [List.replicate_succ]
  | cons y q => simp [List.take_append, List.take_replicate]; omega

/-- Settles O34, by induction on the `TICK`s: each takes the head of the queue, and none of them has faulted, since a
fault stays. -/
theorem transmitQueueLeavesInOrder : Obligations.TransmitQueueLeavesInOrder := by
  intro s xs hen _ hfault
  induction xs generalizing s with
  | nil => simp [afterTicks]
  | cons x xs ih =>
    obtain ⟨t, ht⟩ := exists_exec_tick x s
    rw [afterTicks_cons ht] at hfault ⊢
    have hft : t.fault = false := by
      refine Bool.eq_false_iff.2 fun hon => ?_
      simp [afterTicks_keeps_fault xs hon] at hfault
    obtain ⟨hent, htxq, hout⟩ := exec_tick_transmits ht hen hft
    obtain ⟨houts, hleft⟩ := ih t hent hft hfault
    constructor
    · rw [houts, hout, htxq, List.length_cons, take_queue_succ, List.append_assoc, List.singleton_append]
    · rw [hleft, htxq, List.drop_tail, List.length_cons]

/-! Every function of the receiver commutes with `receiverSide` (R83, R191). -/

theorem settleScan_receiverSide (s : State) : settleScan (receiverSide s) = receiverSide (settleScan s) := by
  unfold settleScan
  rw [apply_ite receiverSide]
  rfl

theorem scanEffect_receiverSide (s : State) : scanEffect (receiverSide s) = receiverSide (scanEffect s) := by
  have cursor : (receiverSide s).cur = s.cur := rfl
  have candidate : (receiverSide s).replaces s.cur = s.replaces s.cur := rfl
  unfold scanEffect
  rw [← settleScan_receiverSide, cursor, candidate]
  cases s.replaces s.cur <;> rfl

theorem collectEffect_receiverSide (phase : CollectPhase) (s : State) :
    collectEffect phase (receiverSide s) = receiverSide (collectEffect phase s) := by
  have settle : ∀ r, settleCollect phase (receiverSide r) = receiverSide (settleCollect phase r) := fun r => by
    unfold settleCollect
    rw [apply_ite receiverSide]
    rfl
  unfold collectEffect
  rw [← settle]
  cases phase <;> rfl

theorem interpretEffect_receiverSide (s : State) :
    interpretEffect (receiverSide s) = receiverSide (interpretEffect s) := by
  unfold interpretEffect
  rw [apply_ite receiverSide]
  rfl

theorem checkEffect_receiverSide (s : State) : checkEffect (receiverSide s) = receiverSide (checkEffect s) := by
  have judge : judgeFrame (receiverSide s) = receiverSide (judgeFrame s) := by
    unfold judgeFrame
    rw [apply_ite receiverSide]
    rfl
  unfold checkEffect
  rw [judge]
  rfl

/-- A step of RXSYNC whose guard and effect do not read the transmit side. -/
theorem guarded_receiverSide {c : Bool} {u v : State} (h : u = receiverSide v) :
    (if c then some u else none) = Option.map receiverSide (if c then some v else none) := by
  cases c <;> simp [h]

theorem rxStep_receiverSide (s : State) : rxStep (receiverSide s) = (rxStep s).map receiverSide := by
  have hc : (receiverSide s).collecting = s.collecting := rfl
  have hst : (receiverSide s).st = s.st := rfl
  unfold rxStep
  rw [hc, hst]
  cases s.collecting <;> cases s.st
  case false.waitHeader => exact guarded_receiverSide (scanEffect_receiverSide s)
  case true.getLength | true.getPayload => exact guarded_receiverSide (collectEffect_receiverSide _ s)
  case false.getPayload => exact guarded_receiverSide (interpretEffect_receiverSide s)
  case false.checkPayload => exact guarded_receiverSide (checkEffect_receiverSide s)
  all_goals rfl

theorem closureLoop_receiverSide (n : Nat) (s : State) :
    closureLoop n (receiverSide s) = receiverSide (closureLoop n s) := by
  induction n generalizing s with
  | zero => rfl
  | succ n ih =>
    simp only [closureLoop, rxStep_receiverSide]
    cases rxStep s with
    | none => rfl
    | some t => exact ih t

theorem rxClosure_receiverSide (s : State) : rxClosure (receiverSide s) = receiverSide (rxClosure s) :=
  closureLoop_receiverSide (closureFuel s) s

/-- What a `TICK` does to the receiver and the detector alone (R221). -/
def receiverTick (x : Sample) (r : State) : State :=
  if r.en = false ∨ r.fault = true then r
  else if r.rx.length = r.prm.rxqCap then raiseFault .rxqOvf r
  else rxClosure (tickFront x r)

/-- The receiver side after a `TICK` is a function of the receiver side before it and the input. -/
theorem receiverSide_exec_tick {x : Sample} (h : exec (.tick x) s = .next t) :
    receiverSide t = receiverTick x (receiverSide s) := by
  have hen : (receiverSide s).en = s.en := rfl
  have hf : (receiverSide s).fault = s.fault := rfl
  have hrx : (receiverSide s).rx = s.rx := rfl
  have hprm : (receiverSide s).prm = s.prm := rfl
  have front : tickFront x (receiverSide s) = receiverSide (tickFront x s) := rfl
  unfold receiverTick
  rw [hen, hf, hrx, hprm, front, rxClosure_receiverSide]
  rcases execTick_cases h with ⟨hoff, rfl⟩ | ⟨hon, hrun, hfull, rfl⟩ | ⟨hon, hrun, hroom, rfl⟩
  · rw [if_pos hoff]; rfl
  · rw [if_neg (by simp [hon, hrun]), if_pos hfull]; rfl
  · rw [if_neg (by simp [hon, hrun]), if_neg hroom]; rfl

/-- Settles O38: a `TICK` acts on the receiver side as `receiverTick` does. -/
theorem receiverIgnoresTheTransmitter : Obligations.ReceiverIgnoresTheTransmitter := by
  intro s s' t t' x hside ht ht'
  rw [receiverSide_exec_tick ht, receiverSide_exec_tick ht', hside]

end Sys2Proof.Proofs
end

section
/-! PROOFS. The decoder and the encoder: the fields of a command word, the words of a command, the sample input, and
which words are illegal (R100 to R103, R110 to R113). -/

namespace Sys2Proof.Proofs

open Sys2Proof.Machine Sys2Proof.Claims Sys2Proof.Laws

variable {s : State} {p : Params} {cw : Word} {inp rest : List PortIn} {i : Instr} {opc k : Nat}

/-! The fields of a command word (R100). -/

theorem toNat_opcOf (cw : Word) : (opcOf cw).toNat = cw.toNat / 2 ^ 24 := by
  have := cw.isLt
  simp only [opcOf, BitVec.toNat_ofNat]; omega

@[simp] theorem opcOf_commandWord (opc : Nat) (a : BitVec 8) (b : BitVec 16) :
    (opcOf (commandWord opc a b)).toNat = opc % 256 := by
  have := a.isLt
  have := b.isLt
  simp only [opcOf, commandWord, BitVec.toNat_ofNat]; omega

@[simp] theorem aOf_commandWord (opc : Nat) (a : BitVec 8) (b : BitVec 16) : aOf (commandWord opc a b) = a := by
  apply BitVec.eq_of_toNat_eq
  have := a.isLt
  have := b.isLt
  simp only [aOf, commandWord, BitVec.toNat_ofNat]; omega

@[simp] theorem bOf_commandWord (opc : Nat) (a : BitVec 8) (b : BitVec 16) : bOf (commandWord opc a b) = b := by
  apply BitVec.eq_of_toNat_eq
  have := a.isLt
  have := b.isLt
  simp only [bOf, commandWord, BitVec.toNat_ofNat]; omega

/-- The three fields are the whole of a command word. -/
theorem commandWord_of_fields (hop : (opcOf cw).toNat = opc) : commandWord opc (aOf cw) (bOf cw) = cw := by
  subst hop
  apply BitVec.eq_of_toNat_eq
  have := cw.isLt
  simp only [commandWord, aOf, bOf, opcOf, BitVec.toNat_ofNat]; omega

theorem aOf_eq_zero_iff (cw : Word) : aOf cw = 0 ↔ cw.toNat / 2 ^ 16 % 256 = 0 := by
  simp [aOf, ← BitVec.toNat_inj]

theorem bOf_eq_zero_iff (cw : Word) : bOf cw = 0 ↔ cw.toNat % 65536 = 0 := by
  simp [bOf, ← BitVec.toNat_inj]

/-! The operand words of a command (R101, R113). -/

theorem takeWords_map_word (ws : List Word) (rest : List PortIn) :
    takeWords ws.length (ws.map .word ++ rest) = some (ws, rest) := by
  induction ws with
  | nil => rfl
  | cons w ws ih => simp [takeWords, ih]

/-- What is taken are words, as many as were asked for, from the front of what waits. -/
theorem takeWords_eq_some {ws : List Word} (h : takeWords k inp = some (ws, rest)) :
    ws.length = k ∧ inp = ws.map .word ++ rest := by
  induction k generalizing inp ws with
  | zero => cases h; exact ⟨rfl, rfl⟩
  | succ k ih =>
    match inp, h with
    | .word w :: inp, h =>
      obtain ⟨⟨ws', rest'⟩, htake, heq⟩ := Option.map_eq_some_iff.1 h
      cases heq
      obtain ⟨hlen, rfl⟩ := ih htake
      exact ⟨congrArg (· + 1) hlen, rfl⟩

theorem withWords_map_word {ws : List Word} (hlen : ws.length = k) (rest : List PortIn) (build : List Word → Instr) :
    withWords k (ws.map .word ++ rest) build = .ok (build ws, rest) := by
  subst hlen
  simp [withWords, takeWords_map_word]

/-! The sample input (R111). -/

/-- Sign extension is the balanced remainder modulo `2^k` (R10). -/
theorem sext_eq_bmod (k v : Nat) : sext k v = (v : Int).bmod (2 ^ k) := by
  have heven : 2 ^ k = 1 ∨ 2 ^ k % 2 = 0 := by cases k <;> simp [pow_succ]
  have hmod : v % 2 ^ k < 2 ^ k := Nat.mod_lt _ (Nat.two_pow_pos k)
  rw [sext, Int.bmod_def, ← Int.natCast_mod]
  generalize 2 ^ k = m at *
  split <;> split <;> omega

/-- A `k`-bit integer on at least `k` lines is read back from its low `k` bits. -/
theorem sext_ofInt {n : Nat} (hkn : k ≤ n) {x : Int} (hlow : -2 ^ k ≤ x * 2) (hhigh : x * 2 < 2 ^ k) :
    sext k (BitVec.ofInt n x).toNat = x := by
  have hpos : (0 : Int) < ((2 ^ n : Nat) : Int) := by positivity
  have hdvd : ((2 ^ k : Nat) : Int) ∣ ((2 ^ n : Nat) : Int) := by exact_mod_cast pow_dvd_pow 2 hkn
  calc sext k (BitVec.ofInt n x).toNat
      = (x % ((2 ^ n : Nat) : Int)).bmod (2 ^ k) := by
        rw [sext_eq_bmod, BitVec.toNat_ofInt, Int.toNat_of_nonneg (Int.emod_nonneg x hpos.ne')]
    _ = x.bmod (2 ^ k) := by rw [← Int.emod_bmod, Int.emod_emod_of_dvd x hdvd, Int.emod_bmod]
    _ = x := Int.bmod_eq_of_le_mul_two (by exact_mod_cast hlow) (by exact_mod_cast hhigh)

theorem decode_encode_tick {x : Sample} (hp : p.valid = true) (hx : p.isSample x = true) (rest : List PortIn) :
    decode p (encode (.tick x) ++ rest) = .ok (.tick x, rest) := by
  have hsw : 2 ≤ p.sw ∧ p.sw ≤ 32 := by simp [Params.valid] at hp; omega
  obtain ⟨hlow, hhigh⟩ := (isSample_iff p x).1 hx
  have hpow : (2 : Int) ^ p.sw = 2 ^ (p.sw - 1) * 2 := by rw [← pow_succ, Nat.sub_add_cancel (by omega)]
  simp only [Params.smin, Params.smax] at hlow hhigh
  have hread : sext p.sw (BitVec.ofInt 32 x).toNat = x := sext_ofInt hsw.2 (by omega) (by omega)
  exact congrArg (fun y => Except.ok (Instr.tick y, rest)) hread

/-! Decoding an encoding. -/

/-- A command word and what follows it are read by the opcode map of R102. -/
theorem decode_commandItems (opc : Nat) (a : BitVec 8) (b : BitVec 16) (ws : List Word) (rest : List PortIn) :
    decode p (commandItems opc a b ws ++ rest) = decodeCommand p (commandWord opc a b) (ws.map .word ++ rest) := rfl

theorem decode_encode (hp : p.valid = true) (hi : i.wellFormed p = true) (rest : List PortIn) :
    decode p (encode i ++ rest) = .ok (i, rest) := by
  cases i with
  | nop | sreset | enable | cfgRd | tblRd | txAbort | rxPop =>
    simp [encode, decode_commandItems, decodeCommand, mbz]
  | cfgWr idx value =>
    have hlen : value.length = p.cfgWrWords idx := of_decide_eq_true hi
    simp [encode, decode_commandItems, decodeCommand, mbz, withWords_map_word hlen]
  | tblWr sel addr sample =>
    have hread := withWords_map_word (ws := [sample]) rfl rest fun ws => .tblWr sel addr (ws.headD 0)
    simpa [encode, decode_commandItems, decodeCommand] using hread
  | crcAppend n bits | crcCheck n bits =>
    have hlen : bits.length = nw n.toNat := of_decide_eq_true hi
    simp [encode, decode_commandItems, decodeCommand, mbz, withWords_map_word hlen]
  | modulate n header payload =>
    obtain ⟨hheader, hpayload⟩ : header.length = nw p.hdrBits ∧ payload.length = nw n.toNat := by
      simpa [Instr.wellFormed] using hi
    have hlen : (header ++ payload).length = header.length + nw n.toNat := by rw [List.length_append, hpayload]
    simp [-List.map_append, encode, decode_commandItems, decodeCommand, mbz, ← hheader, withWords_map_word hlen]
  | tick x => exact decode_encode_tick hp hi rest
  | collect phase => cases phase <;> rfl
  | scan | interpret | check => rfl

/-- Settles O1: the fields of a command word are read back, and so are its words and the sample lines. -/
theorem decodeEncodeAgree : Obligations.DecodeEncodeAgree := fun _ _ rest hp hi => decode_encode hp hi rest

/-! Encoding what was decoded. -/

/-- What a row of the opcode map answers for a command word is well formed, and its encoding is what was consumed. -/
def ReadsItsEncoding (p : Params) (cw : Word) (inp : List PortIn)
    (r : Except DecodeReject (Instr × List PortIn)) : Prop :=
  ∀ i rest, r = .ok (i, rest) → i.wellFormed p = true ∧ encode i ++ rest = .word cw :: inp

namespace ReadsItsEncoding

theorem of_mbz {zero : Bool} {r : Except DecodeReject (Instr × List PortIn)}
    (h : zero = true → ReadsItsEncoding p cw inp r) : ReadsItsEncoding p cw inp (mbz zero r) := fun i rest hr =>
  let ⟨hzero, hr'⟩ := mbz_eq_ok hr
  h hzero i rest hr'

/-- A command without operand words. -/
theorem of_ok (hwf : i.wellFormed p = true) (henc : encode i = [.word cw]) :
    ReadsItsEncoding p cw inp (.ok (i, inp)) := by
  rintro _ _ ⟨⟩
  exact ⟨hwf, by rw [henc]; rfl⟩

/-- A command with operand words. -/
theorem of_withWords {build : List Word → Instr}
    (h : ∀ ws, ws.length = k → (build ws).wellFormed p = true ∧ encode (build ws) = .word cw :: ws.map .word) :
    ReadsItsEncoding p cw inp (withWords k inp build) := by
  intro i rest hr
  obtain ⟨ws, _, htake, ⟨⟩⟩ := withWords_eq_ok hr
  obtain ⟨hlen, rfl⟩ := takeWords_eq_some htake
  obtain ⟨hwf, henc⟩ := h ws hlen
  exact ⟨hwf, by rw [henc]; rfl⟩

end ReadsItsEncoding

/-- The encoding of an operation from the fields of its own command word. -/
theorem commandItems_of_fields {a : BitVec 8} {b : BitVec 16} (hop : (opcOf cw).toNat = opc) (ha : aOf cw = a)
    (hb : bOf cw = b) (ws : List Word) : commandItems opc a b ws = .word cw :: ws.map .word := by
  rw [commandItems, ← ha, ← hb, commandWord_of_fields hop]

/-- The rows of R102 that have neither field nor operand words. -/
theorem ReadsItsEncoding.bare (hop : (opcOf cw).toNat = opc) (hwf : i.wellFormed p = true)
    (henc : encode i = commandItems opc 0 0 []) :
    ReadsItsEncoding p cw inp (mbz (aOf cw == 0 && bOf cw == 0) (.ok (i, inp))) := by
  refine .of_mbz fun hzero => .of_ok hwf ?_
  obtain ⟨ha, hb⟩ := Bool.and_eq_true_iff.1 hzero
  rw [henc, commandItems_of_fields hop (eq_of_beq ha) (eq_of_beq hb)]
  rfl

theorem decodeCommand_readsItsEncoding (p : Params) (cw : Word) (inp : List PortIn) :
    ReadsItsEncoding p cw inp (decodeCommand p cw inp) := by
  unfold decodeCommand
  dsimp only
  split
  case h_1 hop | h_2 hop | h_3 hop | h_11 hop | h_12 hop => exact .bare hop rfl rfl
  case h_4 hop =>
    exact .of_mbz fun hb => .of_withWords fun ws hlen =>
      ⟨decide_eq_true hlen, commandItems_of_fields hop rfl (eq_of_beq hb) ws⟩
  case h_5 hop => exact .of_mbz fun hb => .of_ok rfl (commandItems_of_fields hop rfl (eq_of_beq hb) [])
  case h_6 hop =>
    refine .of_withWords fun ws hlen => ⟨rfl, ?_⟩
    obtain ⟨w, rfl⟩ := List.length_eq_one_iff.1 hlen
    exact commandItems_of_fields hop rfl rfl [w]
  case h_7 hop => exact .of_ok rfl (commandItems_of_fields hop rfl rfl [])
  case h_8 hop | h_9 hop =>
    exact .of_mbz fun ha => .of_withWords fun ws hlen =>
      ⟨decide_eq_true hlen, commandItems_of_fields hop (eq_of_beq ha) rfl ws⟩
  case h_10 hop =>
    refine .of_mbz fun ha => .of_withWords fun ws hlen => ⟨?_, ?_⟩
    · simp [Instr.wellFormed, hlen]
    · rw [encode, List.take_append_drop]
      exact commandItems_of_fields hop (eq_of_beq ha) rfl ws
  case h_13 => exact nofun

/-- Settles O2: every row of the opcode map reads its own encoding. -/
theorem commandsHaveOneEncoding : Obligations.CommandsHaveOneEncoding :=
  fun p cw inp rest i h => decodeCommand_readsItsEncoding p cw inp i rest h

/-! Illegal command words (R103, R112). -/

/-- A rejection that makes a command word illegal. -/
def IsIllegal (r : Except DecodeReject (Instr × List PortIn)) : Prop :=
  r = .error .unlistedOpcode ∨ r = .error .nonZeroMbz

theorem not_isIllegal_ok (o : Instr × List PortIn) : ¬ IsIllegal (.ok o) := by simp [IsIllegal]

/-- Words still to come make a command pending, never illegal (R279). -/
theorem not_isIllegal_withWords (k : Nat) (inp : List PortIn) (build : List Word → Instr) :
    ¬ IsIllegal (withWords k inp build) := by
  unfold withWords
  split <;> simp [IsIllegal]

theorem isIllegal_mbz {zero : Bool} {r : Except DecodeReject (Instr × List PortIn)} (hr : ¬ IsIllegal r) :
    IsIllegal (mbz zero r) ↔ zero = false := by
  cases zero
  · simp [mbz, IsIllegal]
  · simpa [mbz] using hr

/-- A legal command word, by the fields the decoder reads. -/
theorem legalCommand_iff (cw : Word) : legalCommand cw ↔
    ∃ r ∈ opcodeMap, (opcOf cw).toNat = r.1 ∧ (r.2.1 = true → aOf cw = 0) ∧ (r.2.2 = true → bOf cw = 0) := by
  simp only [legalCommand, toNat_opcOf, aOf_eq_zero_iff, bOf_eq_zero_iff]

theorem isIllegal_decodeCommand_iff (p : Params) (cw : Word) (inp : List PortIn) :
    IsIllegal (decodeCommand p cw inp) ↔ ¬ legalCommand cw := by
  rw [legalCommand_iff]
  unfold decodeCommand
  dsimp only
  split
  case h_13 => simp_all [IsIllegal, opcodeMap]
  all_goals next hop => simp [hop, opcodeMap, isIllegal_mbz, not_isIllegal_ok, not_isIllegal_withWords]

theorem fetch_of_isIllegal (h : IsIllegal (decode p inp)) : fetch p inp = .illegal (inp.drop 1) := by
  rcases h with h | h <;> simp [fetch, h]

theorem fetch_ne_illegal (h : ¬ IsIllegal (decode p inp)) (r : List PortIn) : fetch p inp ≠ .illegal r := by
  unfold fetch
  split
  case h_3 e => exact absurd (.inl e) h
  case h_4 e => exact absurd (.inr e) h
  case h_6 =>
    split
    · exact nofun
    · split <;> exact nofun
  all_goals exact nofun

theorem illegalCommand_of_running (hf : s.fault = false) : illegalCommand s = raiseFault .illegalCmd s :=
  if_neg (by simp [hf])

theorem illegalCommand_of_fault (hf : s.fault = true) : illegalCommand s = s := if_pos hf

theorem step_of_illegal (hinp : s.ports.inp = .word cw :: rest) (hcw : ¬ legalCommand cw) :
    step s = .next (illegalCommand (setInput rest s)) := by
  have hfetch : fetch s.prm s.ports.inp = .illegal rest := by
    rw [hinp]
    exact fetch_of_isIllegal ((isIllegal_decodeCommand_iff s.prm cw rest).2 hcw)
  simp [step, hfetch]

/-- Settles O4: a command word is rejected as illegal exactly when no row of R102 selects it. -/
theorem illegalCommandWordsFault : Obligations.IllegalCommandWordsFault := by
  intro s cw rest hinp
  refine ⟨fun hf hcw => ?_, fun hf hcw => ?_, fun hcw => ?_⟩
  · rw [step_of_illegal hinp hcw, illegalCommand_of_running (s := setInput rest s) hf]; rfl
  · rw [step_of_illegal hinp hcw, illegalCommand_of_fault (s := setInput rest s) hf]; rfl
  · rw [hinp]
    exact fetch_ne_illegal fun h => (isIllegal_decodeCommand_iff s.prm cw rest).1 h hcw

/-! Words of the spec. -/

/-- Settles O3, by evaluating the decoder on each word. -/
theorem writtenOutWordsDecode : Obligations.WrittenOutWordsDecode := by
  unfold Obligations.WrittenOutWordsDecode
  decide

end Sys2Proof.Proofs
end

section
/-! PROOFS. Value beats read back (R101, R71), the parts of a waveform and their lengths (R104 to R107, R151 to R155),
and the steps of RXSYNC that are not enabled (R110, R170, R190). -/

namespace Sys2Proof.Proofs

open Sys2Proof.Machine Sys2Proof.Laws

variable {s : State}

/-! Value beats (R101). -/

@[simp] theorem beatValue_append_singleton (ws : List Word) (w : Word) :
    beatValue (ws ++ [w]) = beatValue ws * 2 ^ 32 + w.toNat := by
  simp [beatValue]

@[simp] theorem nw_mul (n : Nat) : nw (32 * n) = n := by simp only [nw, ceilDiv]; omega

theorem le_mul_nw (width : Nat) : width ≤ 32 * nw width := by simp only [nw, ceilDiv]; omega

/-- A value beat fills its words: it is that of a register as wide as the words. -/
theorem valueOut_mul_nw (width v : Nat) : valueOut (32 * nw width) v = valueOut width v := by simp [valueOut]

/-- The words of a value: those of what is above its low 32 bits, then the low 32 bits (R71 (d)). -/
theorem valueOut_succ (n v : Nat) :
    valueOut (32 * (n + 1)) v = valueOut (32 * n) (v / 2 ^ 32) ++ [BitVec.ofNat 32 v] := by
  have word_above : ∀ k ∈ List.range n,
      BitVec.ofNat 32 (v / 2 ^ (32 * (n + 1 - 1 - k))) = BitVec.ofNat 32 (v / 2 ^ 32 / 2 ^ (32 * (n - 1 - k))) := by
    intro k hk
    have hexp : 32 * (n + 1 - 1 - k) = 32 + 32 * (n - 1 - k) := by have := List.mem_range.1 hk; omega
    rw [hexp, pow_add, Nat.div_div_eq_div_mul]
  simp only [valueOut, nw_mul]
  rw [List.range_succ, List.map_append, List.map_congr_left word_above]
  simp

/-- A value beat of `n` words carries a value modulo `2^(32n)`. -/
theorem beatValue_valueOut (n v : Nat) : beatValue (valueOut (32 * n) v) = v % 2 ^ (32 * n) := by
  induction n generalizing v with
  | zero => simp [valueOut, beatValue, Nat.mod_one]
  | succ n ih =>
    rw [valueOut_succ, beatValue_append_singleton, ih, BitVec.toNat_ofNat, Nat.mul_succ, Nat.add_comm (32 * n),
      pow_add, Nat.mod_mul]
    omega

/-- Settles O9: the words of a value beat hold all of a value that its register holds. -/
theorem valueBeatsRoundTrip : Obligations.ValueBeatsRoundTrip := by
  intro width v hv
  have hfits : v < 2 ^ (32 * nw width) := hv.trans_le (Nat.pow_le_pow_right (by decide) (le_mul_nw width))
  have hvalue : beatValue (valueOut width v) = v := by
    rw [← valueOut_mul_nw, beatValue_valueOut, Nat.mod_eq_of_lt hfits]
  have hlen : (valueOut width v).length = nw width := by simp [valueOut]
  rw [valueIn, hvalue, if_pos ⟨hlen, hv⟩]

/-! The lengths of the parts of a waveform (R151 to R155). -/

@[simp] theorem length_xorPrefix (as bs : Bits) : (xorPrefix as bs).length = as.length := by
  induction as generalizing bs with
  | nil => cases bs <;> rfl
  | cons a as ih =>
    cases bs with
    | nil => rfl
    | cons b bs => exact congrArg (· + 1) (ih bs)

/-- Each elimination of the division takes one bit (R202). -/
theorem length_divide (n : Nat) (w : Bits) : (divide n w).length = w.length - n := by
  induction n generalizing w with
  | zero => rfl
  | succ n ih =>
    cases w with
    | nil => simp [divide]
    | cons b w => cases b <;> simp [divide, ih]

@[simp] theorem length_crcResidual (b : Bits) : (crcResidual b).length = 8 := by
  simp [crcResidual, length_divide, crcBits]

@[simp] theorem length_preWave (s : State) : s.preWave.length = s.cfg.preLen := by
  simp [State.preWave, State.tblRow]

theorem length_symbol (hcp : s.cfg.cpLen ≤ s.cfg.symLen) (β : Bits) :
    (s.symbol β).length = s.cfg.cpLen + s.cfg.symLen := by
  simp [State.symbol, State.core, Nat.sub_sub_self hcp]

theorem length_group (hcp : s.cfg.cpLen ≤ s.cfg.symLen) (b : Bits) :
    (s.group b).length = s.cfg.nsym b.length * (s.cfg.cpLen + s.cfg.symLen) := by
  simp [State.group, List.length_flatMap, length_symbol hcp]

@[simp] theorem length_frameBody (hdr pay : Bits) : (frameBody hdr pay).length = hdr.length + 16 + pay.length := by
  simp [frameBody, crcAppend]; omega

/-- `OVH`: the header and the two residuals (R5). -/
theorem ovh_eq (p : Params) : p.ovh = p.hdrBits + 16 := rfl

theorem length_waveform (hcp : s.cfg.cpLen ≤ s.cfg.symLen) {hdr : Bits} (hhdr : hdr.length = s.prm.hdrBits)
    (pay : Bits) : (s.waveform hdr pay).length =
      s.cfg.preLen + (s.cfg.nsymL + s.cfg.nsym (s.prm.hdrBits + 16 + pay.length)) * (s.cfg.cpLen + s.cfg.symLen) := by
  simp only [State.waveform, List.length_append, length_preWave, length_group hcp, length_ubits, length_frameBody, hhdr]
  rw [CfgRegs.nsymL, Nat.add_mul, Nat.add_assoc]

/-- Settles O28: the parts are those of R155 as they stand, and their lengths add up. -/
theorem waveformParts : Obligations.WaveformParts :=
  fun _ _ pay _ hcp hhdr => ⟨rfl, length_waveform hcp hhdr pay⟩

/-! Steps of RXSYNC that are not enabled (R110, R170, R190). -/

theorem RxState_code_injective {a b : RxState} (h : a.code = b.code) : a = b := by
  revert h
  cases a <;> cases b <;> decide

/-- A selector names one value of `collecting` and one synchroniser state (R110). -/
theorem state_of_selects {sel : BitVec 3} {on : Bool} {st : RxState} (hsel : sel.toNat = 4 * on.toNat + st.code)
    (h : s.selects sel = true) : s.collecting = on ∧ s.st = st := by
  have hcode := code_of_selects h
  have := RxState_code_lt s.st
  have := RxState_code_lt st
  exact ⟨Function.LeftInverse.injective Bool.ofNat_toNat (by omega), RxState_code_injective (by omega)⟩

theorem selects_eq_false {sel : BitVec 3} {on : Bool} {st : RxState} (hsel : sel.toNat = 4 * on.toNat + st.code)
    (h : s.en = false ∨ s.fault = true ∨ s.st ≠ st ∨ s.collecting = !on) : s.selects sel = false := by
  rw [Bool.eq_false_iff]
  intro hselects
  obtain ⟨hen, hf, -⟩ := (selects_iff s sel).1 hselects
  obtain ⟨hon, hst⟩ := state_of_selects hsel hselects
  rcases h with h | h | h | h
  · simp [hen] at h
  · simp [hf] at h
  · exact h hst
  · simp [hon] at h

/-- A guard is false where the step is not selected, and where what else it asks is not met (R170). -/
theorem guard_eq_false {sel : BitVec 3} {on : Bool} {st : RxState} {asked : Bool} {unmet : Prop}
    (hsel : sel.toNat = 4 * on.toNat + st.code) (hunmet : unmet → asked = false)
    (h : s.en = false ∨ s.fault = true ∨ s.st ≠ st ∨ s.collecting = (!on) ∨ unmet) :
    (s.selects sel && asked) = false := by
  have split : (s.en = false ∨ s.fault = true ∨ s.st ≠ st ∨ s.collecting = !on) ∨ unmet := by
    simpa only [or_assoc] using h
  exact Bool.and_eq_false_iff.2 (split.imp (selects_eq_false hsel) hunmet)

theorem present_eq_false {n : Nat} (h : s.rxBase + s.rx.length < s.cur + n) : s.present n = false := by
  rw [Bool.eq_false_iff]
  intro hpresent
  exact absurd ((present_iff s n).1 hpresent).2 (Nat.not_le.2 h)

theorem ifEnabled_of_guard {guard : Bool} {t : State} (h : guard = false) :
    ifEnabled s (if guard then some t else none) = s := by
  rw [h]; rfl

theorem exec_scan_of_guard (h : (s.selects 0b000 && s.present s.cfg.preLen) = false) : exec .scan s = .next s :=
  congrArg Host.Outcome.next (ifEnabled_of_guard h)

theorem exec_collect_of_guard {phase : CollectPhase}
    (h : (s.selects phase.selector && s.present s.cfg.sym) = false) : exec (.collect phase) s = .next s :=
  congrArg Host.Outcome.next (ifEnabled_of_guard h)

theorem exec_interpret_of_guard (h : s.selects 0b010 = false) : exec .interpret s = .next s :=
  congrArg Host.Outcome.next (ifEnabled_of_guard h)

theorem exec_check_of_guard (h : (s.selects 0b011 && decide (s.rxf.length < s.prm.rxfCap)) = false) :
    exec .check s = .next s :=
  congrArg Host.Outcome.next (ifEnabled_of_guard h)

/-- Settles O43: each step's guard is false. -/
theorem stepsNotEnabledChangeNothing : Obligations.StepsNotEnabledChangeNothing := by
  refine fun s => ⟨fun h => ?scan, fun h => ?lengthField, fun h => ?body, fun h => ?interpret, fun h => ?check⟩
  case scan => exact exec_scan_of_guard (guard_eq_false (on := false) (st := .waitHeader) rfl present_eq_false h)
  case lengthField =>
    exact exec_collect_of_guard (guard_eq_false (on := true) (st := .getLength) rfl present_eq_false h)
  case body => exact exec_collect_of_guard (guard_eq_false (on := true) (st := .getPayload) rfl present_eq_false h)
  case interpret => exact exec_interpret_of_guard (selects_eq_false (on := false) (st := .getPayload) rfl h)
  case check =>
    have full : s.rxf.length = s.prm.rxfCap → decide (s.rxf.length < s.prm.rxfCap) = false :=
      fun hfull => decide_eq_false hfull.not_lt
    exact exec_check_of_guard (guard_eq_false (on := false) (st := .checkPayload) rfl full h)

end Sys2Proof.Proofs
end

section
/-! PROOFS. The configuration and control commands: `NOP`, `SRESET`, `ENABLE`, and the reads and writes of registers and
table entries (R131 to R138). -/

namespace Sys2Proof.Proofs

open Sys2Proof.Machine Sys2Proof.Claims Sys2Proof.Laws

variable {s : State} {idx : BitVec 8} {ws : List Word} {sel : BitVec 8} {addr : BitVec 16} {w : Word}

/-- Outside the fault state a host command has its effect (R130 step (1)). -/
theorem unlessFaulted_of_running {t : State} (hf : s.fault = false) : unlessFaulted s t = t := if_neg (by simp [hf])

/-! `NOP` and `SRESET` (R131, R132). -/

/-- The first row of the opcode map (R102). -/
theorem decode_of_opcode_zero {cw : Word} (hop : cw.toNat / 2 ^ 24 = 0) (p : Params) (rest : List PortIn) :
    decode p (.word cw :: rest) = mbz (aOf cw == 0 && bOf cw == 0) (.ok (.nop, rest)) := by
  rw [← toNat_opcOf] at hop
  simp [decode, decodeCommand, hop]

/-- A word with opcode 0 and its fields zero is the zero word (R100). -/
theorem fields_ne_zero_of_opcode_zero {cw : Word} (hop : cw.toNat / 2 ^ 24 = 0) (hcw : cw ≠ 0) :
    (aOf cw == 0 && bOf cw == 0) = false := by
  rw [← toNat_opcOf] at hop
  rw [Bool.eq_false_iff]
  intro hzero
  obtain ⟨ha, hb⟩ := Bool.and_eq_true_iff.1 hzero
  apply hcw
  rw [← commandWord_of_fields hop, eq_of_beq ha, eq_of_beq hb]
  rfl

/-- Settles O16: `NOP` has no effect, and of the words with opcode 0 only the zero word is read. -/
theorem nopChangesNothing : Obligations.NopChangesNothing := by
  intro s rest
  refine ⟨rfl, decode_of_opcode_zero rfl s.prm rest, fun cw hop hcw => ?_⟩
  rw [decode_of_opcode_zero hop, fields_ne_zero_of_opcode_zero hop hcw]
  rfl

/-- Settles O17: `SRESET` is `softReset` in every state. -/
theorem sresetGivesTheResetState : Obligations.SresetGivesTheResetState := fun _ => rfl

/-! `ENABLE` (R134): the energy registers it computes (R35), and its outcomes. -/

theorem energyOf_tblRow (s : State) (sel n : Nat) :
    (energyOf (s.tblRow sel n) : Int) = sumTo n fun i => s.tblSample sel i ^ 2 := by
  rw [energyOf_eq_sum, State.tblRow, List.map_map]
  rfl

@[simp] theorem length_energies (s : State) : s.energies.length = 2 * s.prm.nMax + 1 := by simp [State.energies]

/-- With at most `N_MAX` carriers the registers past the end of the file are among those that are 0. -/
theorem energies_getD (hN : s.cfg.nCar ≤ s.prm.nMax) (sel : Nat) :
    s.energies.getD sel 0 =
      if sel = 0 then energyOf s.preWave
      else if sel ≤ 2 * s.cfg.nCar then energyOf (s.tblRow sel s.cfg.symLen)
      else 0 := by
  by_cases hsel : sel < 2 * s.prm.nMax + 1
  · simp [State.energies, hsel]
  · rw [List.getD_eq_default _ _ (by rw [length_energies]; omega), if_neg (by omega), if_neg (by omega)]

theorem exec_enable_of_enabled (hf : s.fault = false) (hen : s.en = true) :
    exec .enable s = .next (raiseFault .cfgLocked s) := by
  simp [exec, execEnable, unlessFaulted_of_running hf, hen]

theorem exec_enable_of_wfConfig (hf : s.fault = false) (hen : s.en = false) (hwf : s.wfConfig = true) :
    exec .enable s = .next (enableBlock s) := by
  simp [exec, execEnable, unlessFaulted_of_running hf, hen, hwf]

/-- Settles O19: the list of energies is the one that `ENABLE` computes. -/
theorem enableFollowsItsRule : Obligations.EnableFollowsItsRule := by
  intro s hf
  refine ⟨exec_enable_of_enabled hf, exec_enable_of_not_wfConfig hf, fun hen hwf => ?_⟩
  obtain ⟨hregs, -⟩ := (wfConfig_iff s).1 hwf
  obtain ⟨⟨-, hN⟩, -⟩ := (wfRegs_iff s).1 hregs
  refine ⟨s.energies, exec_enable_of_wfConfig hf hen hwf, length_energies s, ?_, fun c hc b => ?_, fun sel hsel => ?_⟩
  · rw [energies_getD hN, if_pos rfl, energyOf_preWave]
  · have hb := b.toNat_le
    rw [energies_getD hN, if_neg (by omega), if_pos (by omega), energyOf_tblRow]
    rfl
  · rw [energies_getD hN, if_neg (by omega), if_neg (by omega)]

/-! `CFG_WR` (R135). -/

/-- With the words that the command announces, only the value can violate the format of a mapped register (R101, R113). -/
theorem cfgValueOk_iff {p : Params} (hlen : ws.length = p.cfgWrWords idx) :
    cfgValueOk p idx.toNat ws = true ↔ ∀ width, p.regWidth idx.toNat = some width → beatValue ws < 2 ^ width := by
  cases hw : p.regWidth idx.toNat with
  | none => simp [cfgValueOk, hw]
  | some width =>
    have hwords : ws.length = nw width := by simpa [Params.cfgWrWords, hw] using hlen
    simp [cfgValueOk, hw, valueIn, hwords]

theorem exec_cfgWr_of_running (hf : s.fault = false) : exec (.cfgWr idx ws) s = .next
    (if !cfgValueOk s.prm idx.toNat ws then raiseFault .badValue s
    else if 0x0C < idx.toNat then raiseFault .badIndex s
    else if s.en then raiseFault .cfgLocked s
    else writeCfg idx.toNat (beatValue ws) s) :=
  congrArg Host.Outcome.next (unlessFaulted_of_running hf)

/-- Settles O20: the checks of `CFG_WR` in their order. -/
theorem cfgWrFollowsItsRule : Obligations.CfgWrFollowsItsRule := by
  intro s idx ws hf hlen
  rw [exec_cfgWr_of_running hf]
  refine ⟨fun ⟨width, hwidth, hbig⟩ => ?_, fun hfits => ?_⟩
  · have hbad : cfgValueOk s.prm idx.toNat ws = false :=
      Bool.eq_false_iff.2 fun hok => hbig.not_gt ((cfgValueOk_iff hlen).1 hok width hwidth)
    rw [hbad]
    rfl
  · rw [(cfgValueOk_iff hlen).2 hfits]
    refine ⟨fun hidx => ?_, fun hidx hen => ?_, fun hidx hen => ?_⟩
    · rw [if_pos hidx]
      rfl
    · rw [if_neg hidx.not_gt, if_pos hen]
      rfl
    · rw [if_neg hidx.not_gt, if_neg (Bool.eq_false_iff.1 hen)]
      rfl

/-! `CFG_RD` (R136): the register file of the model against the map of R31, R35 and R36. -/

theorem register_of_mem_map {e : Nat × Nat × Nat} (h : e ∈ registerMap s) :
    s.prm.regWidth e.1 = some e.2.1 ∧ s.regValue e.1 = e.2.2 := by
  revert e
  simp [registerMap, Params.regWidth, State.regValue, CfgRegs.get, State.rxWr]

theorem regWidth_energy {p : Params} {sel : Nat} (h : sel ≤ 2 * p.nMax) : p.regWidth (0x40 + sel) = some p.enw := by
  simp [Params.regWidth, Nat.add_comm 0x40, h]

theorem regValue_energy (s : State) (sel : Nat) : s.regValue (0x40 + sel) = s.energy.getD sel 0 := by
  simp [State.regValue, Nat.add_comm 0x40]

theorem regWidth_eq_none {n : Nat} (hmap : ∀ e ∈ registerMap s, n ≠ e.1)
    (henergy : ¬ (0x40 ≤ n ∧ n ≤ 0x40 + 2 * s.prm.nMax)) : s.prm.regWidth n = none := by
  simp only [registerMap, List.forall_mem_cons] at hmap
  simp only [Params.regWidth]
  rw [if_neg (by omega), if_neg (by omega), if_neg (by omega), if_neg (by omega), if_neg (by omega), if_neg henergy]

theorem exec_cfgRd_of_mapped {width : Nat} (h : s.prm.regWidth idx.toNat = some width) :
    exec (.cfgRd idx) s = .next (putBeats (valueOut width (s.regValue idx.toNat)) s) := by
  simp [exec, execCfgRd, h]

theorem exec_cfgRd_of_unmapped (h : s.prm.regWidth idx.toNat = none) :
    exec (.cfgRd idx) s = .next (unlessFaulted s (raiseFault .badIndex s)) := by
  simp [exec, execCfgRd, h]

/-- Settles O22: the registers of the map, the energy registers, and the indices of neither. -/
theorem cfgRdFollowsItsRule : Obligations.CfgRdFollowsItsRule := by
  intro s idx
  refine ⟨fun e he hidx => ?_, fun sel hsel hidx => ?_, fun hmap henergy => ?_⟩
  · obtain ⟨hwidth, hvalue⟩ := register_of_mem_map he
    rw [← hidx] at hwidth hvalue
    rw [exec_cfgRd_of_mapped hwidth, hvalue]
    rfl
  · rw [exec_cfgRd_of_mapped (hidx ▸ regWidth_energy hsel), hidx, regValue_energy]
    rfl
  · exact exec_cfgRd_of_unmapped (regWidth_eq_none hmap henergy)

/-! `TBL_WR` (R137). -/

/-- All 32 lines of a sample beat count (R101). -/
theorem sext_word (w : Word) : sext 32 w.toNat = w.toInt := by rw [sext_eq_bmod, BitVec.toInt_eq_toNat_bmod]

theorem sampleIn_eq_none {p : Params} (h : ¬ (p.smin ≤ w.toInt ∧ w.toInt ≤ p.smax)) : sampleIn p w = none := by
  rw [sampleIn, sext_word, if_neg (by rwa [isSample_iff])]

theorem sampleIn_eq_some {p : Params} (h : p.smin ≤ w.toInt ∧ w.toInt ≤ p.smax) : sampleIn p w = some w.toInt := by
  rw [sampleIn, sext_word, if_pos ((isSample_iff p _).2 h)]

theorem exec_tblWr_of_no_sample (hf : s.fault = false) (hw : sampleIn s.prm w = none) :
    exec (.tblWr sel addr w) s = .next (raiseFault .badValue s) := by
  simp [exec, execTblWr, unlessFaulted_of_running hf, hw]

theorem exec_tblWr_of_sample {v : Sample} (hf : s.fault = false) (hw : sampleIn s.prm w = some v) :
    exec (.tblWr sel addr w) s = .next
      (if !s.prm.tblMapped sel.toNat addr.toNat then raiseFault .badIndex s
      else if s.en then raiseFault .cfgLocked s
      else writeTbl sel.toNat addr.toNat v s) := by
  simp [exec, execTblWr, unlessFaulted_of_running hf, hw]

/-- Another place of the table has another key, so a write leaves it as it was (R34). -/
theorem read_write_other_place (m : Memory) (v : Sample) {sel addr sel' addr' : Nat} (haddr : addr < 65536)
    (haddr' : addr' < 65536) (hne : sel' ≠ sel ∨ addr' ≠ addr) :
    Memory.read (Memory.write m (tblKey sel addr) v) (tblKey sel' addr') = Memory.read m (tblKey sel' addr') := by
  rw [Memory_read_write, if_neg]
  intro hkey
  obtain ⟨hsel, hadr⟩ := tblKey_inj haddr' haddr hkey
  exact hne.elim (· hsel) (· hadr)

/-- Settles O24: the checks of `TBL_WR` in their order, then the laws of a table write. -/
theorem tblWrFollowsItsRule : Obligations.TblWrFollowsItsRule := by
  intro s sel addr w hf
  refine ⟨fun hw => exec_tblWr_of_no_sample hf (sampleIn_eq_none hw), fun hw => ?_⟩
  rw [exec_tblWr_of_sample hf (sampleIn_eq_some hw)]
  refine ⟨fun hmapped => ?_, fun hmapped hen => ?_, fun hmapped hen => ?_⟩
  · rw [hmapped]
    rfl
  · rw [hmapped, if_pos hen]
    rfl
  · refine ⟨Memory.write s.tbl (tblKey sel.toNat addr.toNat) w.toInt, ?_, ?_, fun sel' addr' haddr' hne => ?_,
      fun hform => Memory_write_wf hform _ _⟩
    · rw [hmapped, if_neg (Bool.eq_false_iff.1 hen)]
      rfl
    · rw [Memory_read_write, if_pos rfl]
    · exact read_write_other_place s.tbl w.toInt addr.isLt haddr' hne

/-! `TBL_RD` (R138). -/

theorem tblMapped_iff (p : Params) (sel addr : Nat) :
    p.tblMapped sel addr = true ↔ sel ≤ 2 * p.nMax ∧ addr < if sel = 0 then p.pMax else p.sMax := by
  simp [Params.tblMapped]

theorem exec_tblRd_of_mapped (h : s.prm.tblMapped sel.toNat addr.toNat = true) :
    exec (.tblRd sel addr) s = .next (putBeats (tblBeats (s.tblEntry sel.toNat addr.toNat)) s) := by
  simp [exec, execTblRd, h]

theorem exec_tblRd_of_unmapped (h : ¬ s.prm.tblMapped sel.toNat addr.toNat = true) :
    exec (.tblRd sel addr) s = .next (unlessFaulted s (raiseFault .badIndex s)) := by
  simp [exec, execTblRd, h]

/-- Settles O25: the beats of a mapped entry, and the fault of an unmapped place. -/
theorem tblRdFollowsItsRule : Obligations.TblRdFollowsItsRule := by
  intro s sel addr
  rw [← tblMapped_iff]
  refine ⟨fun hmapped => ?_, exec_tblRd_of_unmapped⟩
  rw [exec_tblRd_of_mapped hmapped]
  refine ⟨fun hentry => ?_, fun v hentry => ?_⟩
  · rw [hentry]
    rfl
  · rw [hentry]
    rfl

end Sys2Proof.Proofs
end

section
/-! PROOFS. The modulator: `MODULATE` and `TX_ABORT`, the samples of a group and their range (R152 to R158). -/

namespace Sys2Proof.Proofs

open Sys2Proof.Machine Sys2Proof.Claims Sys2Proof.Laws

variable {s : State}

/-! `MODULATE` and `TX_ABORT` (R157, R158). -/

theorem length_unpack (ws : List Word) : (unpack ws).length = 32 * ws.length := by
  induction ws with
  | nil => rfl
  | cons w ws ih =>
    rw [unpack] at ih ⊢
    simp only [List.flatMap_cons, List.length_append, List.length_cons, ih, wordBits, length_ubits]
    omega

/-- An input beat group of `n` bits stands for `n` bits (R101). -/
theorem length_of_bitsIn {n : Nat} {ws : List Word} {b : Bits} (h : bitsIn n ws = some b) : b.length = n := by
  obtain ⟨⟨hwords, -⟩, hb⟩ := Option.ite_none_right_eq_some.1 h
  have := le_mul_nw n
  rw [← Option.some.inj hb, List.length_take, length_unpack, hwords]
  omega

theorem exec_modulate_of_bad_value {n : BitVec 16} {hw pw : List Word} (hf : s.fault = false)
    (h : bitsIn s.prm.hdrBits hw = none ∨ bitsIn n.toNat pw = none) :
    exec (.modulate n hw pw) s = .next (raiseFault .badValue s) := by
  simp only [exec, execModulate, unlessFaulted_of_running hf]
  rcases h with h | h
  · rw [h]
  · rw [h]
    cases bitsIn s.prm.hdrBits hw <;> rfl

theorem exec_modulate_of_frame {n : BitVec 16} {hw pw : List Word} {hdr pay : Bits} (hf : s.fault = false)
    (hhdr : bitsIn s.prm.hdrBits hw = some hdr) (hpay : bitsIn n.toNat pw = some pay) :
    exec (.modulate n hw pw) s = .next (modulateFrame hdr pay s) := by
  simp only [exec, execModulate, unlessFaulted_of_running hf, hhdr, hpay]

/-- Settles O27: the checks of a frame in their order, with the number of bits the command announces. -/
theorem modulateFollowsItsRule : Obligations.ModulateFollowsItsRule := by
  intro s n hw pw hf
  refine ⟨exec_modulate_of_bad_value hf, fun hdr pay hhdr hpay => ?_⟩
  simp only [exec_modulate_of_frame hf hhdr hpay, modulateFrame, ovh_eq, length_of_bitsIn hpay, Bool.not_eq_true']
  rfl

/-- Settles O31: `TX_ABORT` is `txqClear` outside the fault state. -/
theorem txAbortEmptiesTheQueue : Obligations.TxAbortEmptiesTheQueue := fun s hf =>
  congrArg Host.Outcome.next (unlessFaulted_of_running (t := txqClear s) hf)

/-! The samples of a group (R152, R154). -/

/-- Blocks of one length laid end to end: what precedes block `m`, the block, and what follows it. -/
theorem exists_flatMap_range_eq {α : Type} {f : Nat → List α} {k m n : Nat} (hf : ∀ j, (f j).length = k)
    (hm : m < n) : ∃ before after, (List.range n).flatMap f = before ++ (f m ++ after) ∧ before.length = m * k := by
  obtain ⟨r, rfl⟩ := Nat.exists_eq_add_of_lt hm
  rw [Nat.add_assoc, List.range_add, List.range_succ_eq_map, List.flatMap_append, List.map_cons, List.flatMap_cons,
    Nat.add_zero]
  exact ⟨_, _, rfl, by simp [List.length_flatMap, hf]⟩

/-- The `N` bits that ride on symbol `m` of a group (R154). -/
def symbolBits (s : State) (b : Bits) (m : Nat) : Bits := ((s.padded b).drop (m * s.cfg.nCar)).take s.cfg.nCar

/-- A group around its symbol `m` (R154). -/
theorem exists_group_eq (hcp : s.cfg.cpLen ≤ s.cfg.symLen) {b : Bits} {m : Nat} (hm : m < s.cfg.nsym b.length) :
    ∃ before after, s.group b = before ++ (s.symbol (symbolBits s b m) ++ after) ∧ before.length = m * s.cfg.sym :=
  exists_flatMap_range_eq (fun j => length_symbol hcp (symbolBits s b j)) hm

/-- The bits of a block are the group's, and zeros past its end (R154). -/
theorem getD_symbolBits (b : Bits) (m : Nat) {c : Nat} (hc : c < s.cfg.nCar) :
    (symbolBits s b m).getD c false = b.getD (m * s.cfg.nCar + c) false := by
  simp only [symbolBits, State.padded, List.getD_eq_getElem?_getD, List.getElem?_take_of_lt hc, List.getElem?_drop]
  rcases Nat.lt_or_ge (m * s.cfg.nCar + c) b.length with h | h
  · rw [List.getElem?_append_left h]
  · rw [List.getElem?_append_right h, List.getElem?_eq_none h, List.getElem?_replicate]
    split <;> rfl

theorem getElem?_core (β : Bits) {i : Nat} (hi : i < s.cfg.symLen) : (s.core β)[i]? = some (s.coreSample β i) := by
  simp [State.core, hi]

/-- A sample of a symbol: the end of the core in the first `CP` places, then the core (R152). -/
theorem getElem?_symbol (hcp : s.cfg.cpLen ≤ s.cfg.symLen) (β : Bits) {i : Nat} (hi : i < s.cfg.cpLen + s.cfg.symLen) :
    (s.symbol β)[i]? = some (s.coreSample β
      (if i < s.cfg.cpLen then s.cfg.symLen - s.cfg.cpLen + i else i - s.cfg.cpLen)) := by
  have hhead : ((s.core β).drop (s.cfg.symLen - s.cfg.cpLen)).length = s.cfg.cpLen := by simp [State.core]; omega
  rw [State.symbol]
  split
  · rw [List.getElem?_append_left (by omega), List.getElem?_drop, getElem?_core β (by omega)]
  · rw [List.getElem?_append_right (by omega), hhead, getElem?_core β (by omega)]

/-- A core sample over the block of a group is a sum of the basis waveforms that the group's bits select (R152). -/
theorem coreSample_symbolBits (b : Bits) (m i : Nat) :
    s.coreSample (symbolBits s b m) i =
      sumTo s.cfg.nCar fun c => bas s c (b.getD (m * s.cfg.nCar + c) false) i := by
  refine congrArg List.sum (List.map_congr_left fun c hc => ?_)
  rw [getD_symbolBits b m (List.mem_range.1 hc)]
  rfl

/-- Settles O29: the symbol of the group, its sample, and the carriers that add up to it. -/
theorem groupSamplesAreCarrierSums : Obligations.GroupSamplesAreCarrierSums := by
  intro s b m i _ hcp hm hi
  obtain ⟨before, after, hgroup, hbefore⟩ := exists_group_eq hcp hm
  have hsymbol : i < (s.symbol (symbolBits s b m)).length := by rwa [length_symbol hcp]
  rw [CfgRegs.sym] at hbefore
  rw [hgroup, List.getElem?_append_right (by omega), hbefore, Nat.add_sub_cancel_left,
    List.getElem?_append_left hsymbol, getElem?_symbol hcp _ hi, coreSample_symbolBits]

/-! The range of the synthesised samples (R153). -/

theorem mem_symmetric_of_natAbs_le {v m : Int} (h : (v.natAbs : Int) ≤ m) : -m ≤ v ∧ v ≤ m := by omega

/-- The bound of (W13) on a core sample, in the terms of R153. -/
theorem abs_coreSample_le (s : State) (β : Bits) (i : Nat) :
    |s.coreSample β i| ≤ sumTo s.cfg.nCar fun c => max |bas s c false i| |bas s c true i| := by
  rw [← sum_carrierPeak, ← Int.natCast_natAbs]
  exact Int.ofNat_le.2 (natAbs_coreSample_le s β i)

/-- Settles O30: (W13) bounds every core sample, and a symbol or a group holds core samples only; the preamble was
written. -/
theorem synthesisedSamplesFit : Obligations.SynthesisedSamplesFit := by
  intro s hwf
  obtain ⟨-, -, -, hpeak, -⟩ := (wfConfig_iff s).1 hwf
  refine ⟨fun β i hi => ⟨abs_coreSample_le s β i, (wfPeak_iff s).1 hpeak i hi⟩, fun β v hv => ?_, fun hstorage v hv => ?_⟩
  · obtain ⟨β', hcore⟩ : ∃ β', v ∈ s.core β' :=
      (List.mem_append.1 hv).elim (fun h => ⟨β, mem_core_of_mem_symbol h⟩) exists_mem_core_of_mem_group
    exact mem_symmetric_of_natAbs_le (natAbs_le_smax_of_mem_core hwf hcore)
  · exact (isSample_iff s.prm v).1 (isSample_of_mem_preWave hstorage hwf hv)

end Sys2Proof.Proofs
end

section
/-! PROOFS. An appended residual checks, and a body gives back the record it was made of (R151, R181 to R183, R202,
R206). -/

namespace Sys2Proof.Proofs

open Sys2Proof.Machine Sys2Proof.Claims Sys2Proof.Laws

variable {a c : Bits}

/-! The division is linear over GF(2) (R206). -/

theorem xorBits_cons (x y : Bool) (a c : Bits) : xorBits (x :: a) (y :: c) = (x ^^ y) :: xorBits a c := rfl

theorem length_xorBits (h : a.length = c.length) : (xorBits a c).length = a.length := by simp [xorBits, h]

theorem xorBits_comm (a c : Bits) : xorBits a c = xorBits c a := List.zipWith_comm_of_comm Bool.xor_comm

@[simp] theorem xorBits_self (a : Bits) : xorBits a a = List.replicate a.length false := by
  induction a with
  | nil => rfl
  | cons x a ih => simp [xorBits_cons, ih, List.replicate_succ]

@[simp] theorem xorBits_zeros (a : Bits) : xorBits a (List.replicate a.length false) = a := by
  induction a with
  | nil => rfl
  | cons x a ih => simp [List.replicate_succ, xorBits_cons, ih]

theorem xorBits_append {a' c' : Bits} (h : a.length = c.length) :
    xorBits (a ++ a') (c ++ c') = xorBits a c ++ xorBits a' c' := List.zipWith_append h

/-- An elimination inverts fixed places, so it passes through a sum on its left side (R202). -/
theorem xorPrefix_xorBits (g : Bits) (h : a.length = c.length) :
    xorPrefix (xorBits a c) g = xorBits (xorPrefix a g) c := by
  induction a generalizing c g with
  | nil => cases c <;> cases g <;> rfl
  | cons x a ih =>
    cases c with
    | nil => cases h
    | cons y c =>
      cases g with
      | nil => rfl
      | cons z g =>
        simp only [xorBits_cons, xorPrefix, ih g (Nat.succ.inj h)]
        rw [Bool.xor_right_comm]

/-- Two eliminations at one place cancel (R202). -/
theorem xorPrefix_xorPrefix (a g : Bits) : xorPrefix (xorPrefix a g) g = a := by
  induction a generalizing g with
  | nil => cases g <;> rfl
  | cons x a ih => cases g <;> simp [xorPrefix, ih]

theorem xorBits_xorPrefix (g : Bits) (h : a.length = c.length) :
    xorBits a (xorPrefix c g) = xorPrefix (xorBits a c) g := by
  rw [xorBits_comm a, ← xorPrefix_xorBits g h.symm, xorBits_comm c]

theorem xorPrefix_xorBits_xorPrefix (g : Bits) (h : a.length = c.length) :
    xorBits (xorPrefix a g) (xorPrefix c g) = xorBits a c := by
  rw [xorBits_xorPrefix g (by simpa using h), ← xorPrefix_xorBits g h, xorPrefix_xorPrefix]

/-- One elimination of the division: the bit it makes zero, and the bits behind it (R202). -/
def eliminate (x : Bool) (w : Bits) : Bits := if x then xorPrefix w genTail else w

theorem divide_succ_cons (n : Nat) (x : Bool) (w : Bits) : divide (n + 1) (x :: w) = divide n (eliminate x w) := rfl

@[simp] theorem length_eliminate (x : Bool) (w : Bits) : (eliminate x w).length = w.length := by
  cases x
  · rfl
  · exact length_xorPrefix w genTail

theorem eliminate_xorBits (x y : Bool) (h : a.length = c.length) :
    eliminate (x ^^ y) (xorBits a c) = xorBits (eliminate x a) (eliminate y c) := by
  cases x <;> cases y
  case false.false => rfl
  case true.false => exact xorPrefix_xorBits genTail h
  case false.true => exact (xorBits_xorPrefix genTail h).symm
  case true.true => exact (xorPrefix_xorBits_xorPrefix genTail h).symm

/-- The division of a sum is the sum of the divisions (R206). -/
theorem divide_xorBits (n : Nat) (h : a.length = c.length) :
    divide n (xorBits a c) = xorBits (divide n a) (divide n c) := by
  induction n generalizing a c with
  | zero => rfl
  | succ n ih =>
    cases a with
    | nil => cases c <;> rfl
    | cons x a =>
      cases c with
      | nil => cases h
      | cons y c =>
        have hlen : a.length = c.length := Nat.succ.inj h
        rw [xorBits_cons, divide_succ_cons, eliminate_xorBits x y hlen, divide_succ_cons, divide_succ_cons]
        exact ih (by simpa using hlen)

/-! What the division makes of zeros, and of bits that it does not reach (R202). -/

/-- Zeros in front are dropped. -/
theorem divide_zeros_append (n : Nat) (w : Bits) : divide n (List.replicate n false ++ w) = w := by
  induction n with
  | zero => rfl
  | succ n ih => exact ih

theorem divide_add (n m : Nat) (w : Bits) : divide (n + m) w = divide m (divide n w) := by
  induction n generalizing w with
  | zero => rw [Nat.zero_add]; rfl
  | succ n ih =>
    rw [Nat.add_right_comm]
    cases w with
    | nil => cases m <;> rfl
    | cons x w => exact ih (eliminate x w)

/-- An elimination reaches as far as the generator. -/
theorem eliminate_append (x : Bool) {w : Bits} (u : Bits) (h : 8 ≤ w.length) :
    eliminate x (w ++ u) = eliminate x w ++ u := by
  have beyond : ∀ {w g : Bits}, g.length ≤ w.length → xorPrefix (w ++ u) g = xorPrefix w g ++ u := by
    intro w g hg
    induction g generalizing w with
    | nil => cases w <;> cases u <;> rfl
    | cons z g ih =>
      cases w with
      | nil => cases hg
      | cons y w => exact congrArg ((y ^^ z) :: ·) (ih (Nat.le_of_succ_le_succ hg))
  cases x
  · rfl
  · exact beyond h

theorem divide_append {n : Nat} {w : Bits} (u : Bits) (h : n + 8 ≤ w.length) :
    divide n (w ++ u) = divide n w ++ u := by
  induction n generalizing w with
  | zero => rfl
  | succ n ih =>
    cases w with
    | nil => simp at h
    | cons x w =>
      rw [List.length_cons] at h
      rw [List.cons_append, divide_succ_cons, divide_succ_cons, eliminate_append x u (by omega)]
      exact ih (by rw [length_eliminate]; omega)

/-! The residual (R203, R206). -/

/-- Eight bits in the place of the residual's zeros are added to it. -/
theorem divide_append_residual (b : Bits) {r : Bits} (hr : r.length = crcBits) :
    divide b.length (b ++ r) = xorBits (crcResidual b) r := by
  have hsum : b ++ r =
      xorBits (b ++ List.replicate crcBits false) (List.replicate b.length false ++ r) := by
    rw [xorBits_append List.length_replicate.symm, xorBits_zeros, ← hr, xorBits_comm, xorBits_zeros]
  rw [hsum, divide_xorBits _ (by simp [hr]), divide_zeros_append]
  rfl

/-- An appended residual checks (R206). -/
theorem crcCheck_crcAppend (b : Bits) : crcCheck (crcAppend b) = true := by
  have hres : crcResidual (crcAppend b) = List.replicate crcBits false := by
    have hlen : (crcAppend b).length = b.length + crcBits := by simp [crcAppend, crcBits]
    rw [crcResidual, hlen, divide_add, divide_append _ hlen.ge, crcAppend,
      divide_append_residual b (length_crcResidual b), xorBits_self, length_crcResidual]
    exact divide_zeros_append 8 _
  rw [crcCheck, hres, beq_self_eq_true]

/-! The body of a frame, read back (R181 to R183). -/

@[simp] theorem length_headerBits (p : Params) (dst src seq ack flags : Nat) :
    (headerBits p dst src seq ack flags).length = p.hdrBits := by
  simp [headerBits, Params.hdrBits, Nat.add_assoc]

theorem uint_ubits_of_lt {k v : Nat} (h : v < 2 ^ k) : uint (ubits k v) = v := by rw [uint_ubits, Nat.mod_eq_of_lt h]

/-- A part of a vector that stands behind a part of known length (R9). -/
theorem bitSlice_of_eq {w pre mid post : Bits} {i j : Nat} (h : w = pre ++ (mid ++ post)) (hi : pre.length = i)
    (hj : i + mid.length = j) : bitSlice w i j = mid := by
  subst h hi hj
  simp [bitSlice]

/-- The five fields of a header, whatever follows it (R151, R182). -/
theorem bitSlice_headerBits (p : Params) (dst src seq ack flags : Nat) (post : Bits) :
    let w := headerBits p dst src seq ack flags ++ post
    bitSlice w 0 p.dstBits = ubits p.dstBits dst ∧
      bitSlice w p.dstBits (p.dstBits + p.srcBits) = ubits p.srcBits src ∧
      bitSlice w (p.dstBits + p.srcBits) (p.dstBits + p.srcBits + p.seqBits) = ubits p.seqBits seq ∧
      bitSlice w (p.dstBits + p.srcBits + p.seqBits) (p.dstBits + p.srcBits + p.seqBits + p.ackBits) =
        ubits p.ackBits ack ∧
      bitSlice w (p.dstBits + p.srcBits + p.seqBits + p.ackBits) p.hdrBits = ubits p.flagBits flags := by
  have field : ∀ {pre mid post' : Bits} {i j : Nat}, headerBits p dst src seq ack flags = pre ++ (mid ++ post') →
      pre.length = i → i + mid.length = j →
      bitSlice (headerBits p dst src seq ack flags ++ post) i j = mid :=
    fun {_ _ post' _ _} h hi hj =>
      bitSlice_of_eq (post := post' ++ post) (by rw [h, List.append_assoc, List.append_assoc]) hi hj
  refine ⟨field (pre := []) (post' := ubits p.srcBits src ++ ubits p.seqBits seq ++ ubits p.ackBits ack ++
      ubits p.flagBits flags) ?_ rfl ?_,
    field (pre := ubits p.dstBits dst) (post' := ubits p.seqBits seq ++ ubits p.ackBits ack ++ ubits p.flagBits flags)
      ?_ ?_ ?_,
    field (pre := ubits p.dstBits dst ++ ubits p.srcBits src) (post' := ubits p.ackBits ack ++ ubits p.flagBits flags)
      ?_ ?_ ?_,
    field (pre := ubits p.dstBits dst ++ ubits p.srcBits src ++ ubits p.seqBits seq) (post' := ubits p.flagBits flags)
      ?_ ?_ ?_,
    field (pre := ubits p.dstBits dst ++ ubits p.srcBits src ++ ubits p.seqBits seq ++ ubits p.ackBits ack)
      (post' := []) ?_ ?_ ?_⟩
  all_goals simp [headerBits, Params.hdrBits, Nat.add_assoc]

/-- The protected header of a body (R181). -/
theorem bitSlice_frameBody_header {p : Params} {hdr : Bits} (pay : Bits) (h : hdr.length = p.hdrBits) :
    bitSlice (frameBody hdr pay) 0 p.hcBits = crcAppend hdr :=
  bitSlice_of_eq (pre := []) (post := crcAppend pay) rfl rfl (by simp [crcAppend, Params.hcBits, crcBits, h])

/-- The protected payload of a body (R183). -/
theorem bitSlice_frameBody_payload {p : Params} {hdr : Bits} (pay : Bits) (h : hdr.length = p.hdrBits) :
    bitSlice (frameBody hdr pay) p.hcBits (frameBody hdr pay).length = crcAppend pay :=
  bitSlice_of_eq (pre := crcAppend hdr) (post := []) (by rw [List.append_nil]; rfl)
    (by simp [crcAppend, Params.hcBits, crcBits, h]) (by simp [crcAppend, Params.hcBits, crcBits, h]; omega)

theorem take_crcAppend (b : Bits) : (crcAppend b).take ((crcAppend b).length - crcBits) = b := by
  simp [crcAppend, crcBits]

/-- Settles O50: the two protected parts check, and each field stands where the header puts it. -/
theorem checkReadsBackTheBody : Obligations.CheckReadsBackTheBody := by
  intro p dst src seq ack flags pay hdst hsrc hseq hack hflags
  have hhdr := length_headerBits p dst src seq ack flags
  obtain ⟨fdst, fsrc, fseq, fack, fflags⟩ := bitSlice_headerBits p dst src seq ack flags
    (crcResidual (headerBits p dst src seq ack flags) ++ crcAppend pay)
  have hbody : headerBits p dst src seq ack flags ++ (crcResidual (headerBits p dst src seq ack flags) ++ crcAppend pay) =
      frameBody (headerBits p dst src seq ack flags) pay := (List.append_assoc _ _ _).symm
  rw [hbody] at fdst fsrc fseq fack fflags
  refine ⟨by rw [length_frameBody, hhdr, ovh_eq], ?_, ?_⟩
  · rw [bitSlice_frameBody_header pay hhdr]
    exact crcCheck_crcAppend _
  · rw [frameOf, bitSlice_frameBody_payload pay hhdr, take_crcAppend, crcCheck_crcAppend]
    simp only [fdst, fsrc, fseq, fack, fflags, uint_ubits_of_lt, hdst, hsrc, hseq, hack, hflags]
    rfl

end Sys2Proof.Proofs
end

section
/-! PROOFS. Windows of a sample stream: their correlation with the preamble (R171), the symbols they hold and the bits
that are sliced from these (R152, R154, R174, R175). -/

namespace Sys2Proof.Proofs

open Sys2Proof.Machine Sys2Proof.Claims Sys2Proof.Laws

variable {s : State}

/-! Sums over windows (R11, R171). -/

theorem sumTo_eq_sum (n : Nat) (f : Nat → Int) : sumTo n f = ∑ i ∈ Finset.range n, f i := rfl

theorem sumTo_succ (n : Nat) (f : Nat → Int) : sumTo (n + 1) f = f 0 + sumTo n fun i => f (i + 1) := by
  rw [sumTo, List.range_succ_eq_map, List.map_cons, List.sum_cons, List.map_map]
  rfl

theorem dot_map_range (a : List Sample) (n : Nat) (f : Nat → Int) :
    dot a ((List.range n).map f) = sumTo n fun i => a.getD i 0 * f i := by
  induction n generalizing a f with
  | zero => cases a <;> rfl
  | succ n ih =>
    rw [sumTo_succ, List.range_succ_eq_map, List.map_cons, List.map_map]
    cases a with
    | nil => simp [dot, sumTo]
    | cons x a => exact congrArg (x * f 0 + ·) (ih a (f ∘ Nat.succ))

theorem energyOf_take (a : List Sample) (n : Nat) : (energyOf (a.take n) : Int) = sumTo n fun i => a.getD i 0 ^ 2 := by
  induction n generalizing a with
  | zero => rfl
  | succ n ih =>
    rw [sumTo_succ]
    cases a with
    | nil => simp [energyOf, sumTo]
    | cons x a => simpa [energyOf_eq_sum] using ih a

/-- The samples of a stream that a window at `w` covers (R171). -/
def windowAt (s : State) (stream : List Sample) (w : Nat) : List Sample := (stream.drop w).take s.cfg.preLen

/-- `d2` of R171 for the samples of a window. -/
def matchSq (s : State) (a : List Sample) : Nat := (dot a s.preWave).natAbs ^ 2

/-- `hit` of R171 for the samples of a window. -/
def Hits (s : State) (a : List Sample) : Prop :=
  s.cfg.syncKen * energyOf s.preWave * energyOf a < s.cfg.syncKdot * matchSq s a

theorem matchSq_cast (s : State) (a : List Sample) : (matchSq s a : Int) = dot a s.preWave ^ 2 := by
  rw [matchSq, Nat.cast_pow, Int.natCast_natAbs, sq_abs]

theorem listDot_eq (s : State) (stream : List Sample) (w : Nat) :
    listDot s stream w = dot (windowAt s stream w) s.preWave := by
  rw [State.preWave, State.tblRow, dot_map_range]
  refine congrArg List.sum (List.map_congr_left fun i hi => ?_)
  rw [windowAt, List.getD_eq_getElem?_getD, List.getD_eq_getElem?_getD,
    List.getElem?_take_of_lt (List.mem_range.1 hi), List.getElem?_drop]

theorem listEnergy_eq (s : State) (stream : List Sample) (w : Nat) :
    listEnergy s stream w = energyOf (windowAt s stream w) := by
  rw [windowAt, energyOf_take]
  refine congrArg List.sum (List.map_congr_left fun i _ => ?_)
  rw [List.getD_eq_getElem?_getD, List.getD_eq_getElem?_getD, List.getElem?_drop]

theorem listHit_iff (s : State) (stream : List Sample) (w : Nat) :
    listHit s stream w ↔ Hits s (windowAt s stream w) := by
  have hpre : preEnergy s = energyOf s.preWave := (energyOf_preWave s).symm
  rw [listHit, Hits, hpre, listDot_eq, listEnergy_eq, ← matchSq_cast]
  norm_cast

/-- The inequality of Cauchy and Schwarz: no window is stronger than the preamble itself (R171). -/
theorem matchSq_le (s : State) (a : List Sample) :
    matchSq s (a.take s.cfg.preLen) ≤ energyOf s.preWave * energyOf (a.take s.cfg.preLen) := by
  have hdot : dot (a.take s.cfg.preLen) s.preWave =
      sumTo s.cfg.preLen fun i => (a.take s.cfg.preLen).getD i 0 * s.tblSample 0 i := dot_map_range _ _ _
  have henergy := energyOf_take (a.take s.cfg.preLen) s.cfg.preLen
  rw [List.take_take, min_self] at henergy
  have cauchy : (matchSq s (a.take s.cfg.preLen) : Int) ≤ energyOf (a.take s.cfg.preLen) * energyOf s.preWave := by
    rw [matchSq_cast, hdot, henergy, energyOf_preWave]
    simp only [sumTo_eq_sum]
    exact Finset.sum_mul_sq_le_sq_mul_sq _ _ _
  rw [Nat.mul_comm]
  exact_mod_cast cauchy

/-- The preamble's own correlation is its energy, so its square attains the bound (R160). -/
theorem matchSq_preWave (s : State) : matchSq s s.preWave = energyOf s.preWave * energyOf s.preWave := by
  have hself : ∀ a : List Sample, dot a a = energyOf a := fun a => by
    rw [energyOf_eq_sum, dot, List.zipWith_self]
    simp only [pow_two]
  rw [matchSq, hself, Int.natAbs_natCast, pow_two]

/-- The preamble is a hit where `K_DOT` exceeds `K_EN` (R160 (H2)). -/
theorem Hits_preWave (hgain : s.cfg.syncKen < s.cfg.syncKdot) (henergy : 0 < energyOf s.preWave) :
    Hits s s.preWave := by
  rw [Hits, matchSq_preWave, Nat.mul_assoc]
  exact Nat.mul_lt_mul_of_pos_right hgain (Nat.mul_pos henergy henergy)

/-! Symbols of a group, and the bits sliced from them (R154, R174, R175). -/

theorem length_symbolBits {b : Bits} {m : Nat} (hm : m < s.cfg.nsym b.length) :
    (symbolBits s b m).length = s.cfg.nCar := by
  have hfits : (m + 1) * s.cfg.nCar ≤ s.cfg.nsym b.length * s.cfg.nCar := Nat.mul_le_mul_right _ hm
  rw [Nat.succ_mul] at hfits
  simp only [symbolBits, State.padded, List.length_take, List.length_drop, List.length_append, List.length_replicate]
  omega

/-- The bits of the first `m` symbols and those of the next, as many as the group has (R174). -/
theorem take_append_symbolBits (b : Bits) (m : Nat) :
    b.take (m * s.cfg.nCar) ++
        (symbolBits s b m).take (min s.cfg.nCar (b.length - (b.take (m * s.cfg.nCar)).length)) =
      b.take ((m + 1) * s.cfg.nCar) := by
  have hown : (symbolBits s b m).take (min s.cfg.nCar (b.length - (b.take (m * s.cfg.nCar)).length)) =
      (b.drop (m * s.cfg.nCar)).take s.cfg.nCar := by
    refine List.ext_getElem? fun c => ?_
    simp only [symbolBits, State.padded, List.take_take, List.length_take, List.getElem?_take, List.getElem?_drop]
    split
    · rw [if_pos (by omega), List.getElem?_append_left (by omega)]
    · split
      · rw [List.getElem?_eq_none (by omega)]
      · rfl
  rw [hown, Nat.succ_mul, List.take_add]

/-- The symbol `m` of a group, in a stream that holds the group from index `n` on. -/
theorem window_of_group (hcp : s.cfg.cpLen ≤ s.cfg.symLen) {b : Bits} {m n : Nat} (hm : m < s.cfg.nsym b.length)
    {pre post : List Sample} (hpre : pre.length = n) :
    ((pre ++ (s.group b ++ post)).drop (n + m * s.cfg.sym)).take s.cfg.sym = s.symbol (symbolBits s b m) := by
  obtain ⟨before, after, hgroup, hbefore⟩ := exists_group_eq hcp hm
  have hstream : pre ++ (s.group b ++ post) = (pre ++ before) ++ (s.symbol (symbolBits s b m) ++ (after ++ post)) := by
    simp only [hgroup, List.append_assoc]
  rw [hstream, List.drop_left' (by rw [List.length_append, hpre, hbefore]), CfgRegs.sym,
    List.take_left' (length_symbol hcp _)]

theorem drop_symbol (hcp : s.cfg.cpLen ≤ s.cfg.symLen) (β : Bits) : (s.symbol β).drop s.cfg.cpLen = s.core β :=
  List.drop_left' (by simp [State.core]; omega)

/-- A decodable table gives back the bits of a symbol core (R160 (H1)). -/
theorem sliceAll_core (hdec : Decodable s) {β : Bits} (hβ : β.length = s.cfg.nCar) : s.sliceAll (s.core β) = β := by
  refine List.ext_getElem (by simp [State.sliceAll, hβ]) fun c hc hc' => ?_
  simp only [State.sliceAll, List.getElem_map, List.getElem_range]
  rw [hdec β hβ c (by omega), List.getD_eq_getElem _ _ hc']

end Sys2Proof.Proofs
end

section
/-! PROOFS. The steps of RXSYNC with what decides them, the ring they leave, and the bits that a `COLLECT` adds (R170 to
R179). -/

namespace Sys2Proof.Proofs

open Sys2Proof.Machine Sys2Proof.Claims Sys2Proof.Laws

variable {s t : State}

/-! The step of each synchroniser state (R170). -/

theorem rxStep_waitHeader (h : rxStep s = some t) (hst : s.st = .waitHeader) :
    s.cur + s.cfg.preLen ≤ s.rxWr ∧ t = scanEffect s := by
  obtain ⟨-, -, ⟨-, -, -, hfits, e⟩ | ⟨hst', -⟩ | ⟨hst', -⟩ | ⟨hst', -⟩ | ⟨hst', -⟩⟩ := rxStep_cases h
  · exact ⟨hfits, e⟩
  all_goals exact nomatch hst.symm.trans hst'

theorem rxStep_getLength (h : rxStep s = some t) (hst : s.st = .getLength) :
    s.cur + s.cfg.sym ≤ s.rxWr ∧ t = collectEffect .getLength s := by
  obtain ⟨-, -, ⟨hst', -⟩ | ⟨-, -, -, hfits, e⟩ | ⟨hst', -⟩ | ⟨hst', -⟩ | ⟨hst', -⟩⟩ := rxStep_cases h
  case inr.inl => exact ⟨hfits, e⟩
  all_goals exact nomatch hst.symm.trans hst'

theorem rxStep_interpret (h : rxStep s = some t) (hst : s.st = .getPayload) (hidle : s.collecting = false) :
    t = interpretEffect s := by
  obtain ⟨-, -, ⟨hst', -⟩ | ⟨hst', -⟩ | ⟨-, hon, -⟩ | ⟨-, -, e⟩ | ⟨hst', -⟩⟩ := rxStep_cases h
  case inr.inr.inl => exact nomatch hidle.symm.trans hon
  case inr.inr.inr.inl => exact e
  all_goals exact nomatch hst.symm.trans hst'

theorem rxStep_body (h : rxStep s = some t) (hst : s.st = .getPayload) (hon : s.collecting = true) :
    s.cur + s.cfg.sym ≤ s.rxWr ∧ t = collectEffect .getPayload s := by
  obtain ⟨-, -, ⟨hst', -⟩ | ⟨hst', -⟩ | ⟨-, -, -, hfits, e⟩ | ⟨-, hidle, -⟩ | ⟨hst', -⟩⟩ := rxStep_cases h
  case inr.inr.inl => exact ⟨hfits, e⟩
  case inr.inr.inr.inl => exact nomatch hon.symm.trans hidle
  all_goals exact nomatch hst.symm.trans hst'

theorem rxStep_checkPayload (h : rxStep s = some t) (hst : s.st = .checkPayload) : t = checkEffect s := by
  obtain ⟨-, -, ⟨hst', -⟩ | ⟨hst', -⟩ | ⟨hst', -⟩ | ⟨hst', -⟩ | ⟨-, -, -, e⟩⟩ := rxStep_cases h
  case inr.inr.inr.inr => exact e
  all_goals exact nomatch hst.symm.trans hst'

/-! The outcomes of `SCAN` (R172) and of `COLLECT` (R174), each where it is taken. -/

theorem scanEffect_of_replaces (hpre : 1 ≤ s.cfg.preLen) (hr : s.replaces s.cur = true) :
    scanEffect s = rxDiscard s.cur { takeCandidate s.cur s with cur := s.cur + 1 } := by
  have early : s.cfg.preLen ≠ 0 := by omega
  simp [scanEffect, settleScan, hr, early]

theorem scanEffect_of_not_replaces (hr : s.replaces s.cur = false) :
    scanEffect s = settleScan { s with cur := s.cur + 1 } := by
  rw [scanEffect, hr]
  rfl

theorem scanEffect_of_confirmed (hr : s.replaces s.cur = false) (hcand : s.candValid = true)
    (hpos : s.cur = s.candPos + s.cfg.preLen) : scanEffect s = confirm { s with cur := s.cur + 1 } :=
  (scanEffect_of_not_replaces hr).trans (if_pos (by simp [hcand, hpos]))

theorem scanEffect_of_kept (hr : s.replaces s.cur = false) (hcand : s.candValid = true)
    (hpos : s.cur ≠ s.candPos + s.cfg.preLen) : scanEffect s = rxDiscard s.candPos { s with cur := s.cur + 1 } := by
  rw [scanEffect_of_not_replaces hr]
  simp [settleScan, hcand, hpos]

theorem scanEffect_of_passed (hr : s.replaces s.cur = false) (hcand : s.candValid = false) :
    scanEffect s = rxDiscard (s.cur + 1) { s with cur := s.cur + 1 } := by
  rw [scanEffect_of_not_replaces hr]
  simp [settleScan, hcand]

theorem collectEffect_getLength_of_full (h : (collected s).bitbuf.length = s.need) :
    collectEffect .getLength s = { collected s with collecting := false, st := .getPayload } := if_pos h

theorem collectEffect_getLength_of_part (h : (collected s).bitbuf.length ≠ s.need) :
    collectEffect .getLength s = collected s := if_neg h

theorem collectEffect_getPayload_of_full (h : (collected s).bitbuf.length = s.need) :
    collectEffect .getPayload s =
      { rxDiscard (s.cur + s.cfg.sym) (collected s) with collecting := false, st := .checkPayload } := if_pos h

theorem collectEffect_getPayload_of_part (h : (collected s).bitbuf.length ≠ s.need) :
    collectEffect .getPayload s = rxDiscard (s.cur + s.cfg.sym) (collected s) := if_neg h

theorem interpretEffect_of_limits (hmin : s.cfg.lenMin ≤ uint s.bitbuf) (hmax : uint s.bitbuf ≤ s.cfg.lenMax) :
    interpretEffect s = acceptLength (uint s.bitbuf) s := if_neg (by omega)

/-- A step discards the oldest samples of the ring, none that has not come (R75). -/
theorem ring_of_turn (h : SyncInv s) (m : SyncTurn s t) :
    ∃ k ≤ s.rx.length, t.rxBase = s.rxBase + k ∧ t.rx = s.rx.drop k := by
  obtain ⟨hlow, hhigh, -⟩ := h.ring
  obtain ⟨-, -, hpre, -⟩ := positive_of_wfConfig h.wf
  have discard : ∀ p, s.rxBase ≤ p → p ≤ s.rxWr → t.rxBase = p → t.rx = s.rx.drop (p - s.rxBase) →
      ∃ k ≤ s.rx.length, t.rxBase = s.rxBase + k ∧ t.rx = s.rx.drop k := fun p hp hp' hbase hrx =>
    ⟨p - s.rxBase, by rw [State.rxWr] at hp'; omega, by omega, hrx⟩
  have stay : t.rxBase = s.rxBase → t.rx = s.rx → ∃ k ≤ s.rx.length, t.rxBase = s.rxBase + k ∧ t.rx = s.rx.drop k :=
    fun hbase hrx => ⟨0, Nat.zero_le _, hbase, hrx⟩
  have position : s.st = .waitHeader → s.candValid = true → s.rxBase = s.candPos := fun hst hcand => by
    obtain ⟨-, hpos⟩ := h.waitHeader hst
    rw [if_pos hcand] at hpos
    exact hpos.1
  cases m with
  | confirmed hst _ hfits hcand hpos =>
    have := position hst hcand
    exact discard (s.candPos + s.cfg.preLen) (by omega) (by omega) rfl rfl
  | kept hst _ hfits hcand =>
    have := position hst hcand
    exact discard s.candPos (by omega) (by omega) rfl rfl
  | replaced => exact discard s.cur hlow hhigh rfl rfl
  | passed => exact discard (s.cur + 1) (by omega) (by omega) rfl rfl
  | lengthGrown | lengthFull | rejected => exact stay rfl rfl
  | bodyGrown | bodyFull => exact discard (s.cur + s.cfg.sym) (by omega) (by omega) rfl rfl
  | accepted => exact discard s.cur hlow hhigh rfl rfl
  | checked =>
    obtain ⟨-, hbase, hrx, -⟩ := checkEffect_frame s
    exact stay hbase hrx

/-- Before the last symbol bits of the group are missing (R174). -/
theorem length_take_symbols_ne (hcar : 1 ≤ s.cfg.nCar) {b : Bits} {m : Nat} (hm : m < s.cfg.nsym b.length) :
    (b.take (m * s.cfg.nCar)).length ≠ b.length := by
  have hmore : m * s.cfg.nCar < b.length := (lt_ceilDiv_iff hcar).1 hm
  rw [List.length_take]
  omega

/-- With the last symbol the group is whole (R174). -/
theorem take_all_symbols (hcar : 1 ≤ s.cfg.nCar) {b : Bits} {m : Nat} (hm : s.cfg.nsym b.length ≤ m) :
    b.take (m * s.cfg.nCar) = b :=
  List.take_of_length_le (Nat.not_lt.1 fun hmore => hm.not_gt ((lt_ceilDiv_iff hcar).2 hmore))

/-- `COLLECT` of symbol `m` of a group adds the group's next bits (R174, R160 (H1)). -/
theorem bitbuf_collected {b : Bits} {m : Nat} (hcp : s.cfg.cpLen ≤ s.cfg.symLen) (hdec : Decodable s)
    (hlow : s.rxBase ≤ s.cur) (hsym : s.rxSlice s.cur s.cfg.sym = s.symbol (symbolBits s b m))
    (hm : m < s.cfg.nsym b.length) (hbits : s.bitbuf = b.take (m * s.cfg.nCar)) (hneed : s.need = b.length) :
    (collected s).bitbuf = b.take ((m + 1) * s.cfg.nCar) := by
  have hcore : s.symbolCore = s.core (symbolBits s b m) := by
    rw [← drop_symbol hcp, ← hsym, State.symbolCore, State.rxSlice, State.rxSlice, List.drop_take, List.drop_drop,
      CfgRegs.sym, Nat.add_sub_cancel_left, Nat.sub_add_comm hlow]
  have hnew : (collected s).bitbuf = s.bitbuf ++ s.newBits := rfl
  rw [hnew, State.newBits, hcore, sliceAll_core hdec (length_symbolBits hm), hneed, hbits, take_append_symbolBits]

end Sys2Proof.Proofs
end

section
/-! PROOFS. The round trip (R160): a frame on its way through a stream of samples, and the receiver that hears it. -/

namespace Sys2Proof.Proofs

open Sys2Proof.Machine Sys2Proof.Claims Sys2Proof.Laws

variable {s t u : State}

/-- What the datapath reads and no `TICK` changes: parameters, registers, table, energies, `EN` and `FAULT`. -/
def settings (s : State) : State :=
  { State.resetOf s.prm with en := s.en, fault := s.fault, cfg := s.cfg, tbl := s.tbl, energy := s.energy }

theorem settings_move (m : ReceiverMove s t) : settings t = settings s := (congrArg settings m.frame :)

/-- While the receiver is not stalled the ring holds fewer samples than two preambles or a length group (R271). -/
theorem rx_length_lt (h : BlockInv s) (hen : s.en = true) (hst : s.st ≠ .checkPayload) :
    s.rx.length < max (2 * s.cfg.preLen) (s.cfg.nsymL * s.cfg.sym) := by
  obtain ⟨hcar, -, hpre, hlen, -⟩ := positive_of_wfConfig (h.enabled hen).1
  have symbols : ∀ {m : Nat}, m < s.cfg.nsymL → (m + 1) * s.cfg.sym ≤ s.cfg.nsymL * s.cfg.sym :=
    fun hm => Nat.mul_le_mul_right _ hm
  cases hphase : s.st with
  | waitHeader =>
    obtain ⟨-, hfew, hcand⟩ := h.waitHeader hen hphase
    rw [State.rxWr] at hfew
    split at hcand <;> omega
  | getLength =>
    obtain ⟨-, hbase, -, hfew, m, hm, hcur, -⟩ := h.getLength hphase
    have hfits := symbols hm
    rw [Nat.succ_mul] at hfits
    rw [State.rxWr] at hfew
    omega
  | getPayload =>
    obtain ⟨-, hbase, -, -, -, -, hfew⟩ := h.getPayload hphase
    have hfits := symbols (m := 0) ((lt_ceilDiv_iff hcar).2 (by rwa [Nat.zero_mul]))
    rw [Nat.zero_add, Nat.one_mul] at hfits
    rw [State.rxWr] at hfew
    omega
  | checkPayload => exact absurd hphase hst

/-- (W14) of R33 leaves room for another sample (R271). -/
theorem rx_length_lt_rxqCap (h : BlockInv s) (hen : s.en = true) (hst : s.st ≠ .checkPayload) :
    s.rx.length < s.prm.rxqCap := by
  obtain ⟨-, -, -, -, hqueues⟩ := (wfConfig_iff s).1 (h.enabled hen).1
  exact (rx_length_lt h hen hst).trans_le ((wfQueues_iff s).1 hqueues).1

/-! A transmission and its stream. -/

/-- A frame sent to a receiver: the state in which the receiver begins to listen, the samples that come before the
waveform, the record of the frame, and the samples that come after it (R160). -/
structure Transmission where
  receiver : State
  junk : List Sample
  frame : Frame
  tail : List Sample

namespace Transmission

/-- The frame's waveform (R155). -/
def wave (T : Transmission) : List Sample := T.receiver.waveform (T.frame.header T.receiver.prm) T.frame.payload

/-- The received stream by its stream indices: what was received before does not matter. -/
def stream (T : Transmission) : List Sample :=
  List.replicate T.receiver.rxBase 0 ++ (T.junk ++ T.wave ++ T.tail)

/-- The bits of the body group (R151). -/
def body (T : Transmission) : Bits := frameBody (T.frame.header T.receiver.prm) T.frame.payload

/-- The bits of the length group (R155). -/
def lengthField (T : Transmission) : Bits :=
  ubits T.receiver.cfg.lenBits (T.receiver.prm.ovh + T.frame.payload.length)

/-- The stream index of the preamble: `t0` of R160. -/
def start (T : Transmission) : Nat := T.receiver.rxBase + T.junk.length

/-- The stream index of the length group. -/
def lengthStart (T : Transmission) : Nat := T.start + T.receiver.cfg.preLen

/-- The stream index of the body group. -/
def bodyStart (T : Transmission) : Nat := T.lengthStart + T.receiver.cfg.nsymL * T.receiver.cfg.sym

/-- The stream index after the waveform. -/
def stop (T : Transmission) : Nat := T.bodyStart + T.receiver.cfg.nsym T.body.length * T.receiver.cfg.sym

/-- The window at a stream index (R171). -/
def window (T : Transmission) (w : Nat) : List Sample := windowAt T.receiver T.stream w

/-- `E_pre` (R171). -/
def preambleEnergy (T : Transmission) : Nat := energyOf T.receiver.preWave

/-- The hypotheses of R160: an enabled receiver that scans with an empty ring, a frame within its limits, (H1), (H2),
and the two halves of (H3). -/
structure Clean (T : Transmission) : Prop where
  block : BlockInv T.receiver
  enabled : T.receiver.en = true
  running : T.receiver.fault = false
  scanning : T.receiver.st = .waitHeader
  noCandidate : T.receiver.candValid = false
  emptyRing : T.receiver.rx = []
  room : T.receiver.rxf.length < T.receiver.prm.rxfCap
  record : T.frame = { T.frame with badData := false, route := T.frame.payload.headD false }
  fields : T.frame.dst < 2 ^ T.receiver.prm.dstBits ∧ T.frame.src < 2 ^ T.receiver.prm.srcBits ∧
    T.frame.seq < 2 ^ T.receiver.prm.seqBits ∧ T.frame.ack < 2 ^ T.receiver.prm.ackBits ∧
    T.frame.flags < 2 ^ T.receiver.prm.flagBits
  limits : T.receiver.cfg.lenMin ≤ T.receiver.prm.ovh + T.frame.payload.length ∧
    T.receiver.prm.ovh + T.frame.payload.length ≤ T.receiver.cfg.lenMax ∧
    T.receiver.prm.ovh + T.frame.payload.length < 2 ^ T.receiver.cfg.lenBits
  decodable : Decodable T.receiver
  gain : T.receiver.cfg.syncKen < T.receiver.cfg.syncKdot
  quiet : ∀ w, w + T.receiver.cfg.preLen < T.junk.length → ¬ listHit T.receiver (T.junk ++ T.wave) w
  approach : ∀ w, w < T.junk.length → T.junk.length ≤ w + T.receiver.cfg.preLen →
    listHit T.receiver (T.junk ++ T.wave) w →
    listDot T.receiver (T.junk ++ T.wave) w ^ 2 ≠ preEnergy T.receiver * listEnergy T.receiver (T.junk ++ T.wave) w
  tailLength : T.tail.length = T.receiver.cfg.preLen

variable {T : Transmission}

/-! What the stream holds. -/

theorem stream_eq (T : Transmission) : T.stream =
    (List.replicate T.receiver.rxBase 0 ++ T.junk) ++
      (T.receiver.preWave ++ (T.receiver.group T.lengthField ++ (T.receiver.group T.body ++ T.tail))) := by
  simp only [stream, wave, State.waveform, lengthField, body, List.append_assoc]

theorem window_start (T : Transmission) : T.window T.start = T.receiver.preWave := by
  rw [window, windowAt, stream_eq, List.drop_left' (by simp [start]), List.take_left' (length_preWave _)]

theorem length_body (T : Transmission) : T.body.length = T.receiver.prm.ovh + T.frame.payload.length := by
  rw [body, length_frameBody, Frame.header, length_headerBits, ovh_eq]

theorem length_lengthField (T : Transmission) : T.lengthField.length = T.receiver.cfg.lenBits := length_ubits _ _

theorem nsym_lengthField (T : Transmission) : T.receiver.cfg.nsym T.lengthField.length = T.receiver.cfg.nsymL := by
  rw [length_lengthField, CfgRegs.nsymL]

theorem lengthSymbol (hcp : T.receiver.cfg.cpLen ≤ T.receiver.cfg.symLen) {m : Nat} (hm : m < T.receiver.cfg.nsymL) :
    (T.stream.drop (T.lengthStart + m * T.receiver.cfg.sym)).take T.receiver.cfg.sym =
      T.receiver.symbol (symbolBits T.receiver T.lengthField m) := by
  rw [stream_eq, ← List.append_assoc]
  refine window_of_group hcp ?_ ?_
  · rwa [nsym_lengthField]
  · simp [lengthStart, start, Nat.add_assoc]

theorem bodySymbol (hcp : T.receiver.cfg.cpLen ≤ T.receiver.cfg.symLen) {m : Nat}
    (hm : m < T.receiver.cfg.nsym T.body.length) :
    (T.stream.drop (T.bodyStart + m * T.receiver.cfg.sym)).take T.receiver.cfg.sym =
      T.receiver.symbol (symbolBits T.receiver T.body m) := by
  rw [stream_eq, ← List.append_assoc, ← List.append_assoc]
  refine window_of_group hcp hm ?_
  simp only [List.length_append, List.length_replicate, length_preWave, length_group hcp, length_lengthField,
    bodyStart, lengthStart, start, CfgRegs.nsymL, CfgRegs.sym]

theorem length_stream (hcp : T.receiver.cfg.cpLen ≤ T.receiver.cfg.symLen)
    (htail : T.tail.length = T.receiver.cfg.preLen) : T.stream.length = T.stop + T.receiver.cfg.preLen := by
  rw [stream_eq]
  simp only [List.length_append, List.length_replicate, length_preWave, length_group hcp, length_lengthField,
    stop, bodyStart, lengthStart, start, CfgRegs.nsymL, CfgRegs.sym, htail]
  omega

namespace Clean

variable (hT : T.Clean)

include hT

theorem wf : T.receiver.wfConfig = true := (hT.block.enabled hT.enabled).1

theorem cpLen_le : T.receiver.cfg.cpLen ≤ T.receiver.cfg.symLen := by
  obtain ⟨hregs, -⟩ := (wfConfig_iff _).1 hT.wf
  obtain ⟨-, -, hcp, -⟩ := (wfRegs_iff _).1 hregs
  exact hcp

theorem preambleEnergy_pos : 0 < T.preambleEnergy := by
  obtain ⟨-, -, hpre, -⟩ := (wfConfig_iff _).1 hT.wf
  exact of_decide_eq_true hpre

theorem ePre_eq : T.receiver.ePre = T.preambleEnergy := by
  obtain ⟨hregs, -⟩ := (wfConfig_iff _).1 hT.wf
  obtain ⟨⟨-, hN⟩, -⟩ := (wfRegs_iff _).1 hregs
  rw [State.ePre, (hT.block.enabled hT.enabled).2, energies_getD hN, if_pos rfl]
  rfl

/-- A hit before the preamble reaches into it and is weaker than a perfect match (R160 (H3)). -/
theorem weaker_of_hit {w : Nat} (hlow : T.receiver.rxBase ≤ w) (hw : w < T.start)
    (hhit : Hits T.receiver (T.window w)) : T.start ≤ w + T.receiver.cfg.preLen ∧
      matchSq T.receiver (T.window w) < T.preambleEnergy * energyOf (T.window w) := by
  obtain ⟨j, rfl⟩ := Nat.exists_eq_add_of_le hlow
  have hj : j < T.junk.length := by rw [start] at hw; omega
  have hwave : T.receiver.cfg.preLen ≤ T.wave.length := by simp [wave, State.waveform]
  have hwindow : T.window (T.receiver.rxBase + j) = windowAt T.receiver (T.junk ++ T.wave) j := by
    rw [window, windowAt, stream, List.drop_append, List.length_replicate, Nat.add_sub_cancel_left,
      List.drop_of_length_le (by simp), List.nil_append, List.drop_append_of_le_length (by simp; omega),
      List.take_append_of_le_length (by simp; omega), windowAt]
  rw [hwindow] at hhit ⊢
  have hlist := (listHit_iff _ _ _).2 hhit
  have hnear : T.junk.length ≤ j + T.receiver.cfg.preLen := Nat.not_lt.1 fun hfar => hT.quiet j hfar hlist
  refine ⟨by rw [start]; omega, lt_of_le_of_ne (matchSq_le _ _) fun hperfect => hT.approach j hj hnear hlist ?_⟩
  rw [listDot_eq, listEnergy_eq, ← matchSq_cast, hperfect]
  push_cast
  rw [preambleEnergy, energyOf_preWave]
  rfl

/-- The length group carries the number of bits of the body (R155). -/
theorem uint_lengthField : uint T.lengthField = T.body.length := by
  rw [length_body, lengthField, uint_ubits_of_lt hT.limits.2.2]

/-- The body gives back the frame (O50). -/
theorem body_checks : crcCheck (bitSlice T.body 0 T.receiver.prm.hcBits) = true ∧
    frameOf T.receiver.prm T.body T.body.length = T.frame := by
  obtain ⟨hdst, hsrc, hseq, hack, hflags⟩ := hT.fields
  obtain ⟨-, hheader, hframe⟩ := checkReadsBackTheBody T.receiver.prm _ _ _ _ _ T.frame.payload hdst hsrc hseq hack hflags
  exact ⟨hheader, hframe.trans hT.record.symm⟩

end Clean

/-! What the receiver has reached, and what it holds. -/

/-- The places on the way of R160: before the preamble, with the preamble as the candidate, in the length group before
symbol `m`, at its end, in the body group before symbol `m`, at its end, and with the frame delivered. -/
inductive Phase where
  | approaching
  | found
  | lengthGroup (m : Nat)
  | lengthRead
  | bodyGroup (m : Nat)
  | bodyRead
  | delivered

/-- What the receiver's elements hold in each phase. -/
def Reached (T : Transmission) (u : State) : Phase → Prop
  | .approaching => u.st = .waitHeader ∧ u.rxf = T.receiver.rxf ∧ T.receiver.rxBase ≤ u.cur ∧ u.cur ≤ T.start ∧
      (u.candValid = true →
        T.start ≤ u.candPos + T.receiver.cfg.preLen ∧ u.candD2 < T.preambleEnergy * u.candE)
  | .found => u.st = .waitHeader ∧ u.rxf = T.receiver.rxf ∧ u.candValid = true ∧ u.candPos = T.start ∧
      u.candD2 = T.preambleEnergy * T.preambleEnergy ∧ u.candE = T.preambleEnergy
  | .lengthGroup m => u.st = .getLength ∧ u.rxf = T.receiver.rxf ∧ m < T.receiver.cfg.nsymL ∧
      u.cur = T.lengthStart + m * T.receiver.cfg.sym ∧ u.bitbuf = T.lengthField.take (m * T.receiver.cfg.nCar)
  | .lengthRead => u.st = .getPayload ∧ u.rxf = T.receiver.rxf ∧ u.collecting = false ∧ u.cur = T.bodyStart ∧
      u.bitbuf = T.lengthField
  | .bodyGroup m => u.st = .getPayload ∧ u.rxf = T.receiver.rxf ∧ u.collecting = true ∧
      m < T.receiver.cfg.nsym T.body.length ∧ u.cur = T.bodyStart + m * T.receiver.cfg.sym ∧
      u.lenVal = T.body.length ∧ u.bitbuf = T.body.take (m * T.receiver.cfg.nCar)
  | .bodyRead => u.st = .checkPayload ∧ u.rxf = T.receiver.rxf ∧ u.cur = T.stop ∧ u.lenVal = T.body.length ∧
      u.bitbuf = T.body
  | .delivered => u.st = .waitHeader ∧ u.rxf = T.receiver.rxf ++ [T.frame] ∧ T.stop ≤ u.rxBase

/-- A receiver on its way through the stream, `rest` being what has still to come: its ring holds the stream from
`rx_base` on, and it is in one of the phases without having counted a bad frame. -/
structure Listening (T : Transmission) (rest : List Sample) (u : State) : Prop where
  settings : settings u = settings T.receiver
  ring : u.rx ++ rest = T.stream.drop u.rxBase
  written : u.rxWr + rest.length = T.stream.length
  bad : u.badFrames = T.receiver.badFrames
  reached : ∃ φ, T.Reached u φ

namespace Listening

variable {rest : List Sample} (h : T.Listening rest u)

include h

theorem prm : u.prm = T.receiver.prm := (congrArg State.prm h.settings :)
theorem cfg : u.cfg = T.receiver.cfg := (congrArg State.cfg h.settings :)
theorem en : u.en = T.receiver.en := (congrArg State.en h.settings :)
theorem fault : u.fault = T.receiver.fault := (congrArg State.fault h.settings :)
theorem preWave : u.preWave = T.receiver.preWave := (congrArg State.preWave h.settings :)
theorem ePre : u.ePre = T.receiver.ePre := (congrArg State.ePre h.settings :)

/-- A window of the ring is one of the stream (R41). -/
theorem rxSlice_eq {w k : Nat} (hlow : u.rxBase ≤ w) (hhigh : w + k ≤ u.rxWr) :
    u.rxSlice w k = (T.stream.drop w).take k := by
  rw [State.rxWr] at hhigh
  have hw : T.stream.drop w = (u.rx ++ rest).drop (w - u.rxBase) := by
    rw [h.ring, List.drop_drop, Nat.add_sub_cancel' hlow]
  rw [hw, State.rxSlice, List.drop_append_of_le_length (by omega),
    List.take_append_of_le_length (by rw [List.length_drop]; omega)]

theorem scanned_eq {w : Nat} (hlow : u.rxBase ≤ w) (hhigh : w + u.cfg.preLen ≤ u.rxWr) :
    u.rxSlice w u.cfg.preLen = T.window w := by
  rw [h.rxSlice_eq hlow hhigh, h.cfg]
  rfl

theorem windowD2_eq {w : Nat} (hlow : u.rxBase ≤ w) (hhigh : w + u.cfg.preLen ≤ u.rxWr) :
    u.windowD2 w = matchSq T.receiver (T.window w) := by
  rw [State.windowD2, State.windowDot, h.scanned_eq hlow hhigh, h.preWave, matchSq]

theorem windowEnergy_eq {w : Nat} (hlow : u.rxBase ≤ w) (hhigh : w + u.cfg.preLen ≤ u.rxWr) :
    u.windowEnergy w = energyOf (T.window w) := by
  rw [State.windowEnergy, h.scanned_eq hlow hhigh]

theorem hit_iff (hT : T.Clean) {w : Nat} (hlow : u.rxBase ≤ w) (hhigh : w + u.cfg.preLen ≤ u.rxWr) :
    u.hit w = true ↔ Hits T.receiver (T.window w) := by
  rw [State.hit, decide_eq_true_iff, h.windowD2_eq hlow hhigh, h.windowEnergy_eq hlow hhigh, h.ePre, hT.ePre_eq, h.cfg]
  rfl

/-- When a window of the stream becomes the candidate (R172). -/
theorem replaces_iff (hT : T.Clean) {w : Nat} (hlow : u.rxBase ≤ w) (hhigh : w + u.cfg.preLen ≤ u.rxWr) :
    u.replaces w = true ↔ Hits T.receiver (T.window w) ∧
      (u.candValid = true → u.candD2 * energyOf (T.window w) < matchSq T.receiver (T.window w) * u.candE) := by
  rw [State.replaces, Bool.and_eq_true, h.hit_iff hT hlow hhigh, h.windowD2_eq hlow hhigh, h.windowEnergy_eq hlow hhigh]
  cases u.candValid <;> simp

/-- `COLLECT` of a symbol of a group of the stream adds the group's next bits (R174). -/
theorem bitbuf_collected (hT : T.Clean) {b : Bits} {m : Nat} (hlow : u.rxBase ≤ u.cur)
    (hfits : u.cur + u.cfg.sym ≤ u.rxWr)
    (hsym : (T.stream.drop u.cur).take T.receiver.cfg.sym = T.receiver.symbol (symbolBits T.receiver b m))
    (hm : m < T.receiver.cfg.nsym b.length) (hbits : u.bitbuf = b.take (m * T.receiver.cfg.nCar))
    (hneed : u.need = b.length) : (collected u).bitbuf = b.take ((m + 1) * T.receiver.cfg.nCar) := by
  have hdec : Decodable u := (congrArg Decodable h.settings :) ▸ hT.decodable
  have hsymbol : u.symbol (symbolBits u b m) = T.receiver.symbol (symbolBits T.receiver b m) :=
    (congrArg (fun s => s.symbol (symbolBits s b m)) h.settings :)
  rw [← h.cfg] at hsym hm hbits ⊢
  refine Proofs.bitbuf_collected (h.cfg ▸ hT.cpLen_le) hdec hlow ?_ hm hbits hneed
  rw [h.rxSlice_eq hlow hfits, hsymbol, hsym]

end Listening

/-! The steps of RXSYNC, phase by phase. -/

namespace Listening

variable {rest : List Sample}

/-- Of the windows up to the preamble's, the preamble's own is the strongest and takes the place of any candidate. -/
theorem replaces_at_start (h : T.Listening rest u) (hT : T.Clean) (hcur : u.cur = T.start) (hlow : u.rxBase ≤ u.cur)
    (hfits : u.cur + u.cfg.preLen ≤ u.rxWr)
    (hweak : u.candValid = true → u.candD2 < T.preambleEnergy * u.candE) : u.replaces u.cur = true := by
  rw [h.replaces_iff hT hlow hfits, hcur, window_start, matchSq_preWave]
  refine ⟨Hits_preWave hT.gain hT.preambleEnergy_pos, fun hcand => ?_⟩
  have := Nat.mul_lt_mul_of_pos_right (hweak hcand) hT.preambleEnergy_pos
  rw [preambleEnergy] at this
  linarith

/-- `SCAN` before the preamble: no candidate that could be confirmed, until the preamble is the candidate (R160 (H3)). -/
theorem step_approaching (h : T.Listening rest u) (hT : T.Clean) (hsync : SyncInv u)
    (hphase : T.Reached u .approaching) (e : rxStep u = some t) :
    t.badFrames = u.badFrames ∧ ∃ φ, T.Reached t φ := by
  obtain ⟨hst, hrxf, hstart, hcur, hcand⟩ := hphase
  obtain ⟨hfits, rfl⟩ := rxStep_waitHeader e hst
  have hlow := hsync.ring.1
  have hpre : 1 ≤ u.cfg.preLen := (RingPositions_of_syncInv hsync).lengths.1
  cases hr : u.replaces u.cur with
  | true =>
    rw [scanEffect_of_replaces hpre hr]
    refine ⟨rfl, ?_⟩
    have hd2 := h.windowD2_eq hlow hfits
    have henergy := h.windowEnergy_eq hlow hfits
    rcases hcur.lt_or_eq with hbefore | hthere
    · obtain ⟨hhit, -⟩ := (h.replaces_iff hT hlow hfits).1 hr
      obtain ⟨hnear, hweak⟩ := hT.weaker_of_hit hstart hbefore hhit
      exact ⟨.approaching, hst, hrxf, hstart.trans (Nat.le_succ _), hbefore, fun _ => ⟨hnear, by
        simpa [hd2, henergy] using hweak⟩⟩
    · rw [hthere, window_start] at hd2 henergy
      exact ⟨.found, hst, hrxf, rfl, hthere, by simp [hthere, hd2, matchSq_preWave, preambleEnergy], by
        simp [hthere, henergy, preambleEnergy]⟩
  | false =>
    have hbefore : u.cur < T.start := hcur.lt_of_ne fun hthere => by
      have := h.replaces_at_start hT hthere hlow hfits fun hc => (hcand hc).2
      simp [hr] at this
    cases hc : u.candValid with
    | false =>
      rw [scanEffect_of_passed hr hc]
      exact ⟨rfl, .approaching, hst, hrxf, hstart.trans (Nat.le_succ _), hbefore, fun hc' => nomatch hc.symm.trans hc'⟩
    | true =>
      have hnear := (hcand hc).1
      rw [scanEffect_of_kept hr hc (by rw [h.cfg]; omega)]
      exact ⟨rfl, .approaching, hst, hrxf, hstart.trans (Nat.le_succ _), hbefore, hcand⟩

/-- `SCAN` with the preamble as the candidate: no window is stronger, and the preamble is confirmed (R172). -/
theorem step_found (h : T.Listening rest u) (hT : T.Clean) (hsync : SyncInv u)
    (hphase : T.Reached u .found) (e : rxStep u = some t) : t.badFrames = u.badFrames ∧ ∃ φ, T.Reached t φ := by
  obtain ⟨hst, hrxf, hcand, hpos, hd2, hce⟩ := hphase
  obtain ⟨hfits, rfl⟩ := rxStep_waitHeader e hst
  have hr : u.replaces u.cur = false := Bool.eq_false_iff.2 fun hr => by
    obtain ⟨-, hstronger⟩ := (h.replaces_iff hT hsync.ring.1 hfits).1 hr
    have hbound : matchSq T.receiver (T.window u.cur) ≤ T.preambleEnergy * energyOf (T.window u.cur) := matchSq_le _ _
    have := Nat.mul_le_mul_right T.preambleEnergy hbound
    have := hstronger hcand
    rw [hd2, hce] at this
    linarith
  by_cases hconfirm : u.cur = u.candPos + u.cfg.preLen
  · rw [scanEffect_of_confirmed hr hcand hconfirm]
    obtain ⟨hcar, -, -, hlen, -⟩ := positive_of_wfConfig hT.wf
    have hfirst : 0 < T.receiver.cfg.nsymL := (lt_ceilDiv_iff hcar).2 (by rwa [Nat.zero_mul])
    refine ⟨rfl, .lengthGroup 0, rfl, hrxf, hfirst, ?_, by simp⟩
    simp [hpos, h.cfg, lengthStart]
  · rw [scanEffect_of_kept hr hcand hconfirm]
    exact ⟨rfl, .found, hst, hrxf, hcand, hpos, hd2, hce⟩

/-- `COLLECT` of a symbol of the length group (R174). -/
theorem step_lengthGroup (h : T.Listening rest u) (hT : T.Clean) (hsync : SyncInv u) {m : Nat}
    (hphase : T.Reached u (.lengthGroup m)) (e : rxStep u = some t) :
    t.badFrames = u.badFrames ∧ ∃ φ, T.Reached t φ := by
  obtain ⟨hst, hrxf, hm, hcur, hbits⟩ := hphase
  obtain ⟨hfits, rfl⟩ := rxStep_getLength e hst
  obtain ⟨hon, -, hneed, -⟩ := hsync.getLength hst
  obtain ⟨hcar, -⟩ := positive_of_wfConfig hT.wf
  rw [h.cfg, ← length_lengthField] at hneed
  have hsymbol := lengthSymbol hT.cpLen_le hm
  rw [← hcur] at hsymbol
  have hgrown := h.bitbuf_collected hT hsync.ring.1 hfits hsymbol (by rwa [nsym_lengthField]) hbits hneed
  have hnext : u.cur + u.cfg.sym = T.lengthStart + (m + 1) * T.receiver.cfg.sym := by
    rw [hcur, h.cfg, Nat.succ_mul, Nat.add_assoc]
  rcases Nat.lt_or_ge (m + 1) T.receiver.cfg.nsymL with hmore | hlast
  · rw [collectEffect_getLength_of_part
      (by rw [hgrown, hneed]; exact length_take_symbols_ne hcar (by rwa [nsym_lengthField]))]
    exact ⟨rfl, .lengthGroup (m + 1), hst, hrxf, hmore, hnext, hgrown⟩
  · rw [take_all_symbols hcar (by rwa [nsym_lengthField])] at hgrown
    rw [collectEffect_getLength_of_full (by rw [hgrown, hneed])]
    have hcount : m + 1 = T.receiver.cfg.nsymL := by omega
    rw [hcount] at hnext
    exact ⟨rfl, .lengthRead, rfl, hrxf, rfl, hnext, hgrown⟩

/-- `INTERPRET` accepts the length (R179). -/
theorem step_lengthRead (h : T.Listening rest u) (hT : T.Clean) (hphase : T.Reached u .lengthRead)
    (e : rxStep u = some t) : t.badFrames = u.badFrames ∧ ∃ φ, T.Reached t φ := by
  obtain ⟨hst, hrxf, hidle, hcur, hbits⟩ := hphase
  obtain rfl := rxStep_interpret e hst hidle
  obtain ⟨hmin, hmax, -⟩ := hT.limits
  obtain ⟨hcar, -⟩ := positive_of_wfConfig hT.wf
  have hlen : uint u.bitbuf = T.body.length := by rw [hbits, hT.uint_lengthField]
  have hfirst : 0 < T.receiver.cfg.nsym T.body.length :=
    (lt_ceilDiv_iff hcar).2 (by rw [Nat.zero_mul, length_body, ovh_eq]; omega)
  rw [interpretEffect_of_limits (by rwa [hlen, h.cfg, length_body]) (by rwa [hlen, h.cfg, length_body])]
  refine ⟨rfl, .bodyGroup 0, hst, hrxf, rfl, hfirst, ?_, hlen, by simp⟩
  rw [Nat.zero_mul]
  exact hcur

/-- `COLLECT` of a symbol of the body group (R174). -/
theorem step_bodyGroup (h : T.Listening rest u) (hT : T.Clean) (hsync : SyncInv u) {m : Nat}
    (hphase : T.Reached u (.bodyGroup m)) (e : rxStep u = some t) :
    t.badFrames = u.badFrames ∧ ∃ φ, T.Reached t φ := by
  obtain ⟨hst, hrxf, hon, hm, hcur, hval, hbits⟩ := hphase
  obtain ⟨hfits, rfl⟩ := rxStep_body e hst hon
  obtain ⟨-, hneed, -⟩ := hsync.body hst hon
  obtain ⟨hcar, -⟩ := positive_of_wfConfig hT.wf
  rw [hval] at hneed
  have hsymbol := bodySymbol hT.cpLen_le hm
  rw [← hcur] at hsymbol
  have hgrown := h.bitbuf_collected hT hsync.ring.1 hfits hsymbol hm hbits hneed
  have hnext : u.cur + u.cfg.sym = T.bodyStart + (m + 1) * T.receiver.cfg.sym := by
    rw [hcur, h.cfg, Nat.succ_mul, Nat.add_assoc]
  rcases Nat.lt_or_ge (m + 1) (T.receiver.cfg.nsym T.body.length) with hmore | hlast
  · rw [collectEffect_getPayload_of_part (by rw [hgrown, hneed]; exact length_take_symbols_ne hcar hmore)]
    exact ⟨rfl, .bodyGroup (m + 1), hst, hrxf, hon, hmore, hnext, hval, hgrown⟩
  · rw [take_all_symbols hcar hlast] at hgrown
    rw [collectEffect_getPayload_of_full (by rw [hgrown, hneed])]
    have hcount : m + 1 = T.receiver.cfg.nsym T.body.length := by omega
    rw [hcount] at hnext
    exact ⟨rfl, .bodyRead, rfl, hrxf, hnext, hval, hgrown⟩

/-- `CHECK` emits the record of the frame (R181). -/
theorem step_bodyRead (h : T.Listening rest u) (hT : T.Clean) (hsync : SyncInv u)
    (hphase : T.Reached u .bodyRead) (e : rxStep u = some t) : t.badFrames = u.badFrames ∧ ∃ φ, T.Reached t φ := by
  obtain ⟨hst, hrxf, hcur, hval, hbits⟩ := hphase
  obtain rfl := rxStep_checkPayload e hst
  obtain ⟨-, -, hbase⟩ := hsync.checkPayload hst
  obtain ⟨hheader, hframe⟩ := hT.body_checks
  have hjudge : judgeFrame u = rxfPush T.frame u := by
    rw [judgeFrame, hbits, hval, h.prm, if_pos hheader, hframe]
  rw [checkEffect, hjudge]
  exact ⟨rfl, .delivered, rfl, congrArg (· ++ [T.frame]) hrxf, (hbase.trans hcur).ge⟩

/-- `SCAN` after the frame: what is left of the stream is too short for a confirmation (R172). -/
theorem step_delivered (h : T.Listening rest u) (hT : T.Clean) (hsync : SyncInv u)
    (hphase : T.Reached u .delivered) (e : rxStep u = some t) : t.badFrames = u.badFrames ∧ ∃ φ, T.Reached t φ := by
  obtain ⟨hst, hrxf, hstop⟩ := hphase
  obtain ⟨hfits, rfl⟩ := rxStep_waitHeader e hst
  obtain ⟨-, hcand⟩ := hsync.waitHeader hst
  have hpre : 1 ≤ u.cfg.preLen := (RingPositions_of_syncInv hsync).lengths.1
  have hlow := hsync.ring.1
  have hwritten := h.written
  rw [length_stream hT.cpLen_le hT.tailLength, ← h.cfg] at hwritten
  cases hr : u.replaces u.cur with
  | true =>
    rw [scanEffect_of_replaces hpre hr]
    exact ⟨rfl, .delivered, hst, hrxf, hstop.trans hlow⟩
  | false =>
    cases hc : u.candValid with
    | false =>
      rw [scanEffect_of_passed hr hc]
      exact ⟨rfl, .delivered, hst, hrxf, hstop.trans (hlow.trans (Nat.le_succ _))⟩
    | true =>
      rw [if_pos hc] at hcand
      rw [scanEffect_of_kept hr hc (by omega)]
      exact ⟨rfl, .delivered, hst, hrxf, by simpa [← hcand.1] using hstop⟩

/-- Every step of RXSYNC leads from phase to phase. -/
theorem step_reached (h : T.Listening rest u) (hT : T.Clean) (hsync : SyncInv u) (e : rxStep u = some t) :
    t.badFrames = u.badFrames ∧ ∃ φ, T.Reached t φ := by
  obtain ⟨φ, hphase⟩ := h.reached
  cases φ with
  | approaching => exact h.step_approaching hT hsync hphase e
  | found => exact h.step_found hT hsync hphase e
  | lengthGroup => exact h.step_lengthGroup hT hsync hphase e
  | lengthRead => exact h.step_lengthRead hT hphase e
  | bodyGroup => exact h.step_bodyGroup hT hsync hphase e
  | bodyRead => exact h.step_bodyRead hT hsync hphase e
  | delivered => exact h.step_delivered hT hsync hphase e

theorem step (h : T.Listening rest u) (hT : T.Clean) (hsync : SyncInv u) (e : rxStep u = some t) :
    T.Listening rest t := by
  obtain ⟨hbad, hreached⟩ := h.step_reached hT hsync e
  obtain ⟨k, hk, hbase, hrx⟩ := ring_of_turn hsync (rxStep_turn (RingPositions_of_syncInv hsync).lengths.1 e)
  refine ⟨(settings_move (rxStep_move e)).trans h.settings, ?_, ?_, hbad.trans h.bad, hreached⟩
  · rw [hrx, hbase, ← List.drop_drop, ← h.ring, List.drop_append_of_le_length hk]
  · rw [← h.written, State.rxWr, State.rxWr, hrx, hbase, List.length_drop]
    omega

/-! The `TICK`s of the stream (R221). -/

theorem closure (h : T.Listening rest u) (hT : T.Clean) (hsync : SyncInv u) : T.Listening rest (rxClosure u) := by
  have keep := rxClosure_keeps (I := fun v => SyncInv v ∧ T.Listening rest v) (fun v w hv e =>
    ⟨SyncInv_turn hv.1 (rxStep_move e) (rxStep_turn (RingPositions_of_syncInv hv.1).lengths.1 e), hv.2.step hT hv.1 e⟩)
  exact (keep u ⟨hsync, h⟩).2

/-- The next sample of the stream is pushed (R75). -/
theorem front {x : Sample} (h : T.Listening (x :: rest) u) : T.Listening rest (tickFront x u) where
  settings := h.settings
  ring := by
    have hrx : (tickFront x u).rx = u.rx ++ [x] := rfl
    rw [hrx, List.append_assoc]
    exact h.ring
  written := by
    have hrx : (tickFront x u).rxWr = u.rxWr + 1 := by simp [State.rxWr, tickFront, Nat.add_assoc]
    rw [hrx, ← h.written, List.length_cons]
    omega
  bad := h.bad
  reached := let ⟨φ, hphase⟩ := h.reached; ⟨φ, by cases φ <;> exact hphase⟩

theorem output (h : T.Listening rest u) (y : Sample) : T.Listening rest (putSample y u) where
  settings := h.settings
  ring := h.ring
  written := h.written
  bad := h.bad
  reached := let ⟨φ, hphase⟩ := h.reached; ⟨φ, by cases φ <;> exact hphase⟩

/-- At rest the receiver is in no `CHECK_PAYLOAD`: the frame queue has room (R160). -/
theorem st_ne_checkPayload (h : T.Listening rest u) (hT : T.Clean) (hblock : BlockInv u) : u.st ≠ .checkPayload := by
  intro hst
  obtain ⟨-, -, -, hfull⟩ := hblock.checkPayload hst
  have hroom := hT.room
  obtain ⟨φ, hphase⟩ := h.reached
  cases φ with
  | bodyRead =>
    obtain ⟨-, hrxf, -⟩ := hphase
    rw [hrxf, h.prm] at hfull
    omega
  | _ => exact nomatch hst.symm.trans hphase.1

/-- A `TICK` with the next sample of the stream has its four effects (R221). -/
theorem tick {x : Sample} (h : T.Listening (x :: rest) u) (hT : T.Clean) (hblock : BlockInv u) :
    ∃ t, exec (.tick x) u = .next t ∧ T.Listening rest t ∧ BlockInv t := by
  have hen : u.en = true := h.en.trans hT.enabled
  have hf : u.fault = false := h.fault.trans hT.running
  have hroom : u.rx.length ≠ u.prm.rxqCap := (rx_length_lt_rxqCap hblock hen (h.st_ne_checkPayload hT hblock)).ne
  obtain ⟨t, ht⟩ := exists_exec_tick x u
  obtain ⟨hoff, -⟩ | ⟨-, -, hfull, -⟩ | ⟨-, -, -, rfl⟩ := execTick_cases ht
  · simp [hen, hf] at hoff
  · exact absurd hfull hroom
  · rw [tickEffect_eq] at ht
    have hsync := SyncInv_tickFront (SyncInv_of_blockInv hblock hen) hroom x
    exact ⟨_, ht, (h.front.closure hT hsync).output _, BlockInv_outside (BlockInv_ticked hblock hen hf hroom x) _ _ _ _⟩

theorem ticks (h : T.Listening rest u) (hT : T.Clean) (hblock : BlockInv u) :
    T.Listening [] (afterTicks rest u) ∧ BlockInv (afterTicks rest u) := by
  induction rest generalizing u with
  | nil => exact ⟨h, hblock⟩
  | cons x rest ih =>
    obtain ⟨t, ht, hlistening, hblock'⟩ := h.tick hT hblock
    rw [afterTicks_cons ht]
    exact ih hlistening hblock'

/-- A receiver at rest that has heard the whole stream has delivered the frame: in every phase before that a step would
be enabled (R160, R190). -/
theorem delivered (h : T.Listening [] u) (hT : T.Clean) (hblock : BlockInv u) : T.Reached u .delivered := by
  have hen : u.en = true := h.en.trans hT.enabled
  have hheard : u.rxWr = T.stop + u.cfg.preLen := by
    rw [h.cfg, ← length_stream hT.cpLen_le hT.tailLength]
    exact h.written
  have hlength : T.lengthStart = T.start + u.cfg.preLen := by rw [h.cfg, lengthStart]
  have hbody : T.bodyStart = T.lengthStart + T.receiver.cfg.nsymL * u.cfg.sym := by rw [h.cfg, bodyStart]
  have hstop : T.stop = T.bodyStart + T.receiver.cfg.nsym T.body.length * u.cfg.sym := by rw [h.cfg, stop]
  have symbols : ∀ {m n : Nat}, m < n → m * u.cfg.sym + u.cfg.sym ≤ n * u.cfg.sym := fun hm => by
    rw [← Nat.succ_mul]
    exact Nat.mul_le_mul_right _ hm
  obtain ⟨φ, hphase⟩ := h.reached
  cases φ with
  | approaching =>
    obtain ⟨hst, -, -, hcur, -⟩ := hphase
    obtain ⟨-, hfew, -⟩ := hblock.waitHeader hen hst
    omega
  | found =>
    obtain ⟨hst, -, hcand, hpos, -⟩ := hphase
    obtain ⟨-, hfew, hwithin⟩ := hblock.waitHeader hen hst
    rw [if_pos hcand] at hwithin
    omega
  | lengthGroup m =>
    obtain ⟨hst, -, hm, hcur, -⟩ := hphase
    obtain ⟨-, -, -, hfew, -⟩ := hblock.getLength hst
    have := symbols hm
    rw [← h.cfg] at hcur
    omega
  | lengthRead =>
    obtain ⟨hst, -, hidle, -⟩ := hphase
    exact nomatch hidle.symm.trans (hblock.getPayload hst).1
  | bodyGroup m =>
    obtain ⟨hst, -, -, hm, hcur, -⟩ := hphase
    obtain ⟨-, -, -, -, -, -, hfew⟩ := hblock.getPayload hst
    have := symbols hm
    rw [← h.cfg] at hcur
    omega
  | bodyRead => exact absurd hphase.1 (h.st_ne_checkPayload hT hblock)
  | delivered => exact hphase

end Listening

/-- The receiver begins to listen before the preamble, with an empty ring (R160). -/
theorem Clean.listening (hT : T.Clean) : T.Listening (T.junk ++ T.wave ++ T.tail) T.receiver where
  settings := rfl
  ring := by rw [hT.emptyRing, stream, List.drop_left' List.length_replicate, List.nil_append]
  written := by simp [State.rxWr, hT.emptyRing, stream]
  bad := rfl
  reached := by
    obtain ⟨-, -, hbase⟩ := hT.block.waitHeader hT.enabled hT.scanning
    rw [hT.noCandidate, if_neg Bool.false_ne_true] at hbase
    exact ⟨.approaching, hT.scanning, rfl, hbase.le, by rw [start]; omega,
      fun hcand => nomatch hT.noCandidate.symm.trans hcand⟩

/-- The stream of a clean transmission ends with the frame delivered, without a fault or a counted bad frame (R160). -/
theorem Clean.delivers (hT : T.Clean) :
    let t := afterTicks (T.junk ++ T.wave ++ T.tail) T.receiver
    t.fault = false ∧ t.badFrames = T.receiver.badFrames ∧ t.rxf = T.receiver.rxf ++ [T.frame] := by
  obtain ⟨hlistening, hblock⟩ := hT.listening.ticks hT hT.block
  obtain ⟨-, hrxf, -⟩ := hlistening.delivered hT hblock
  exact ⟨hlistening.fault.trans hT.running, hlistening.bad, hrxf⟩

end Transmission

/-- Settles O51: the hypotheses of R160 make the transmission clean, and a clean one is followed phase by phase. -/
theorem roundTripDeliversTheFrame : Obligations.RoundTripDeliversTheFrame := by
  intro s junk tail dst src seq ack flags pay _ hblock hen hf hst hcand hrx hroom hdst hsrc hseq hack hflags hmin hmax
    hwidth hdec hgain wave hquiet happroach htail
  exact Transmission.Clean.delivers
    (T :=
      { receiver := s, junk := junk, tail := tail
        frame := { dst := dst, src := src, seq := seq, ack := ack, flags := flags, badData := false,
                   route := pay.headD false, payload := pay } })
    { block := hblock, enabled := hen, running := hf, scanning := hst, noCandidate := hcand, emptyRing := hrx,
      room := hroom, record := rfl, fields := ⟨hdst, hsrc, hseq, hack, hflags⟩, limits := ⟨hmin, hmax, hwidth⟩,
      decodable := hdec, gain := hgain, quiet := hquiet, approach := happroach, tailLength := htail }

end Sys2Proof.Proofs
end

section
/-! PROOFS. The host commands that leave the receiver alone, `RX_POP` with its closure, and the bound on the correlation
(R171, R185, R190, R191). -/

namespace Sys2Proof.Proofs

open Sys2Proof.Machine Sys2Proof.Claims Sys2Proof.Laws

variable {s : State}

/-! The host commands (R191, R214). -/

/-- Settles O52: of the effects an operation can have, those of the host commands stay outside the receiver. -/
theorem hostCommandsLeaveTheReceiver : Obligations.HostCommandsLeaveTheReceiver := by
  intro i s t hi h
  cases exec_effect h with
  | reset | popped | idleTick | overflowTick | ticked => exact nomatch hi
  | synced _ _ hi' => exact nomatch hi.symm.trans hi'
  | _ => rfl

/-! The closure, and `RX_POP` (R185, R190). -/

theorem SyncSteps_rxClosure (s : State) : SyncSteps s (rxClosure s) :=
  rxClosure_keeps (I := SyncSteps s) (fun _ _ h e => h.tail e) s .refl

/-- Settles O45: the measure of the steps before rest is within the fuel of the closure. -/
theorem closureRunsToExhaustion : Obligations.ClosureRunsToExhaustion :=
  fun s h => ⟨rxClosure_rests h, SyncSteps_rxClosure s⟩

theorem RingPositions_popFront (h : RingPositions s) : RingPositions (popFront s) :=
  ⟨h.lengths, h.cursor, h.candidate, h.saved⟩

theorem popFront_of_empty (h : s.rxf = []) : popFront s = answered [0] s := by
  have popped : rxfPop s = s := by rw [rxfPop, h, List.tail_nil, ← h]
  rw [popFront, h, popped]
  rfl

theorem popFront_of_frame {f : Frame} {fs : List Frame} (h : s.rxf = f :: fs) :
    popFront s = answered (frameStatus f :: (pack (f.header s.prm) ++ pack f.payload)) { s with rxf := fs } := by
  rw [popFront, rxfPop, h]
  rfl

/-- `RX_POP` is its two effects before the closure, then the closure. -/
theorem exec_rxPop_of_running {u : State} (hf : s.fault = false) (hu : popFront s = u) :
    exec .rxPop s = .next (rxClosure u) ∧ SyncSteps u (rxClosure u) ∧ onlyReceiver u (rxClosure u) ∧
      (RingPositions s → rxStep (rxClosure u) = none) := by
  subst hu
  exact ⟨congrArg Host.Outcome.next (unlessFaulted_of_running hf), SyncSteps_rxClosure _, (popFront_move s).frame,
    fun h => rxClosure_rests (RingPositions_popFront h)⟩

/-- Settles O44: the beats before the closure are those of the empty queue or of its oldest frame. -/
theorem rxPopFollowsItsRule : Obligations.RxPopFollowsItsRule := fun _ hf =>
  ⟨fun hempty => exec_rxPop_of_running hf (popFront_of_empty hempty),
    fun _ _ hframe => exec_rxPop_of_running hf (popFront_of_frame hframe)⟩

/-! The bound on the correlation (R171, R275). -/

theorem windowD2_le (s : State) (w : Nat) : s.windowD2 w ≤ energyOf s.preWave * s.windowEnergy w :=
  matchSq_le s (s.rx.drop (w - s.rxBase))

/-- Settles O49, from the inequality of Cauchy and Schwarz. -/
theorem correlationIsBounded : Obligations.CorrelationIsBounded := by
  intro s w hpre
  have bound : s.windowD2 w ≤ s.ePre * s.windowEnergy w := hpre ▸ windowD2_le s w
  refine ⟨bound, fun hgain => decide_eq_false (Nat.not_lt.2 ?_)⟩
  calc s.cfg.syncKdot * s.windowD2 w
      ≤ s.cfg.syncKen * (s.ePre * s.windowEnergy w) := Nat.mul_le_mul hgain bound
    _ = s.cfg.syncKen * s.ePre * s.windowEnergy w := (Nat.mul_assoc _ _ _).symm

end Sys2Proof.Proofs
end

section
/-! PROOFS. The steps of RXSYNC where they are enabled: `INTERPRET`, `CHECK`, `COLLECT` and `SCAN` (R171 to R183). -/

namespace Sys2Proof.Proofs

open Sys2Proof.Machine Sys2Proof.Claims Sys2Proof.Laws

variable {s : State}

/-! Steps of RXSYNC that are enabled (R110, R170, R190). -/

/-- RXSYNC selects the step of its state (R110). -/
theorem selects_of_state {sel : BitVec 3} {on : Bool} {st : RxState} (hen : s.en = true) (hf : s.fault = false)
    (hon : s.collecting = on) (hst : s.st = st) (hsel : BitVec.ofNat 3 (4 * on.toNat + st.code) = sel) :
    s.selects sel = true := (selects_iff s sel).2 ⟨hen, hf, by rw [State.selector, hon, hst, hsel]⟩

theorem ifEnabled_of_enabled {guard : Bool} {t : State} (h : guard = true) :
    ifEnabled s (if guard then some t else none) = t := by
  rw [h]; rfl

theorem exec_scan_of_enabled (hen : s.en = true) (hf : s.fault = false) (hst : s.st = .waitHeader)
    (hidle : s.collecting = false) (hlow : s.rxBase ≤ s.cur) (hfits : s.cur + s.cfg.preLen ≤ s.rxWr) :
    exec .scan s = .next (scanEffect s) :=
  congrArg Host.Outcome.next (ifEnabled_of_enabled
    (Bool.and_eq_true_iff.2 ⟨selects_of_state hen hf hidle hst rfl, (present_iff s _).2 ⟨hlow, hfits⟩⟩))

theorem exec_collect_of_enabled {phase : CollectPhase} {st : RxState} (hen : s.en = true) (hf : s.fault = false)
    (hon : s.collecting = true) (hst : s.st = st) (hphase : BitVec.ofNat 3 (4 + st.code) = phase.selector)
    (hlow : s.rxBase ≤ s.cur) (hfits : s.cur + s.cfg.sym ≤ s.rxWr) :
    exec (.collect phase) s = .next (collectEffect phase s) :=
  congrArg Host.Outcome.next (ifEnabled_of_enabled
    (Bool.and_eq_true_iff.2 ⟨selects_of_state hen hf hon hst hphase, (present_iff s _).2 ⟨hlow, hfits⟩⟩))

theorem exec_interpret_of_enabled (hen : s.en = true) (hf : s.fault = false) (hst : s.st = .getPayload)
    (hidle : s.collecting = false) : exec .interpret s = .next (interpretEffect s) :=
  congrArg Host.Outcome.next (ifEnabled_of_enabled (selects_of_state hen hf hidle hst rfl))

theorem exec_check_of_enabled (hen : s.en = true) (hf : s.fault = false) (hst : s.st = .checkPayload)
    (hidle : s.collecting = false) (hroom : s.rxf.length < s.prm.rxfCap) :
    exec .check s = .next (checkEffect s) :=
  congrArg Host.Outcome.next (ifEnabled_of_enabled
    (Bool.and_eq_true_iff.2 ⟨selects_of_state hen hf hidle hst rfl, decide_eq_true hroom⟩))

/-! `INTERPRET` (R179). -/

theorem interpretEffect_of_outside (h : uint s.bitbuf < s.cfg.lenMin ∨ s.cfg.lenMax < uint s.bitbuf) :
    interpretEffect s = rejectLength s := if_pos h

/-- Settles O41: both outcomes of the comparison with the limits. -/
theorem interpretFollowsItsRule : Obligations.InterpretFollowsItsRule := by
  intro s hen hf hst hidle
  rw [exec_interpret_of_enabled hen hf hst hidle]
  refine ⟨fun houtside => ?_, fun ⟨hmin, hmax⟩ => ?_⟩
  · rw [interpretEffect_of_outside houtside]; rfl
  · rw [interpretEffect_of_limits hmin hmax]; rfl

/-! `CHECK` (R181 to R183). -/

/-- A slice of given length (R9). -/
theorem bitSlice_add (b : Bits) (i k : Nat) : bitSlice b i (i + k) = (b.drop i).take k := by
  rw [bitSlice, Nat.add_sub_cancel_left]

theorem bitSlice_zero (b : Bits) (k : Nat) : bitSlice b 0 k = b.take k := rfl

/-- A slice up to a given end (R9). -/
theorem bitSlice_eq_drop_take (b : Bits) (i j : Nat) : bitSlice b i j = (b.take j).drop i := List.drop_take.symm

/-- The record of a body with its fields cut out of the header, whatever its payload (R181, R183). -/
theorem frameOf_eq (p : Params) (body : Bits) (len : Nat) :
    let pc := (body.take len).drop (p.hdrBits + 8)
    let pay := pc.take (pc.length - 8)
    let field := fun i k => uint ((body.drop i).take k)
    frameOf p body len =
      { dst := field 0 p.dstBits
        src := field p.dstBits p.srcBits
        seq := field (p.dstBits + p.srcBits) p.seqBits
        ack := field (p.dstBits + p.srcBits + p.seqBits) p.ackBits
        flags := field (p.dstBits + p.srcBits + p.seqBits + p.ackBits) p.flagBits
        badData := !crcCheck pc
        route := crcCheck pc && pay.headD false
        payload := if crcCheck pc then pay else [] } := by
  have hpc : bitSlice body p.hcBits len = (body.take len).drop (p.hdrBits + 8) := bitSlice_eq_drop_take _ _ _
  have hflags : bitSlice body (p.dstBits + p.srcBits + p.seqBits + p.ackBits) p.hdrBits =
      (body.drop (p.dstBits + p.srcBits + p.seqBits + p.ackBits)).take p.flagBits := bitSlice_add _ _ _
  simp only [frameOf, hpc, hflags, bitSlice_add, bitSlice_zero, List.drop_zero, crcBits]

theorem checkEffect_of_bad_header (h : crcCheck (bitSlice s.bitbuf 0 s.prm.hcBits) = false) :
    checkEffect s = { countBadFrame s with st := .waitHeader, bitbuf := [], candValid := false } := by
  rw [checkEffect, judgeFrame, h]; rfl

theorem checkEffect_of_good_header (h : crcCheck (bitSlice s.bitbuf 0 s.prm.hcBits) = true) :
    checkEffect s =
      { rxfPush (frameOf s.prm s.bitbuf s.lenVal) s with st := .waitHeader, bitbuf := [], candValid := false } := by
  rw [checkEffect, judgeFrame, h]; rfl

/-- Settles O42: the header's check decides whether a record is emitted, the payload's what it holds. -/
theorem checkFollowsItsRule : Obligations.CheckFollowsItsRule := by
  intro s hen hf hst hidle hroom hc pc pay field f done
  rw [exec_check_of_enabled hen hf hst hidle hroom]
  refine ⟨fun hbad => ?badHeader, fun hgood hpc => ?badPayload, fun hgood hpc => ?good⟩
  case badHeader => rw [checkEffect_of_bad_header hbad]; rfl
  case badPayload =>
    have record : frameOf s.prm s.bitbuf s.lenVal = { f with badData := true, route := false, payload := [] } := by
      rw [frameOf_eq]; simp [pc, hpc, f, field]
    rw [checkEffect_of_good_header hgood, record]
    rfl
  case good =>
    have record : frameOf s.prm s.bitbuf s.lenVal = f := by
      rw [frameOf_eq]; simp [pc, hpc, f, field, pay]
    rw [checkEffect_of_good_header hgood, record]
    rfl

/-! The samples of the ring under a window (R11, R171, R175). -/

theorem getD_rxSlice {w n i : Nat} (hlow : s.rxBase ≤ w) (hi : i < n) :
    (s.rxSlice w n).getD i 0 = rxAt s (w + i) := by
  rw [State.rxSlice, rxAt, List.getD_eq_getElem?_getD, List.getD_eq_getElem?_getD, List.getElem?_take_of_lt hi,
    List.getElem?_drop, Nat.sub_add_comm hlow]

/-- The dot product of a window with a row of the table as a sum (R11). -/
theorem dot_rxSlice_tblRow {w : Nat} (hlow : s.rxBase ≤ w) (sel n : Nat) :
    dot (s.rxSlice w n) (s.tblRow sel n) = sumTo n fun i => rxAt s (w + i) * s.tblSample sel i := by
  rw [State.tblRow, dot_map_range]
  exact congrArg List.sum (List.map_congr_left fun i hi => by rw [getD_rxSlice hlow (List.mem_range.1 hi)])

/-- The energy of a window as a sum (R11). -/
theorem energyOf_rxSlice {w : Nat} (hlow : s.rxBase ≤ w) (n : Nat) :
    (energyOf (s.rxSlice w n) : Int) = sumTo n fun i => rxAt s (w + i) ^ 2 := by
  have whole : (s.rxSlice w n).take n = s.rxSlice w n := by rw [State.rxSlice, List.take_take, min_self]
  rw [← whole, energyOf_take]
  exact congrArg List.sum (List.map_congr_left fun i hi => by rw [getD_rxSlice hlow (List.mem_range.1 hi)])

/-! `COLLECT` (R174, R175). -/

/-- The bits of the first carriers (R174). -/
theorem newBits_eq (s : State) :
    s.newBits = (List.range (min s.cfg.nCar (s.need - s.bitbuf.length))).map (s.slice s.symbolCore) := by
  rw [State.newBits, State.sliceAll, ← List.map_take, List.take_range, min_eq_left (min_le_left _ _)]

/-- A carrier's bit compares two sums (R175). -/
theorem slice_symbolCore (hlow : s.rxBase ≤ s.cur) (c : Nat) :
    s.slice s.symbolCore c = decide
      ((sumTo s.cfg.symLen fun i => rxAt s (s.cur + s.cfg.cpLen + i) * bas s c false i) <
        sumTo s.cfg.symLen fun i => rxAt s (s.cur + s.cfg.cpLen + i) * bas s c true i) := by
  have core : s.rxBase ≤ s.cur + s.cfg.cpLen := Nat.le_add_right_of_le hlow
  rw [State.slice, State.symbolCore, State.basWave, State.basWave, dot_rxSlice_tblRow core, dot_rxSlice_tblRow core]
  rfl

/-- Settles O40: the group grows by the bits of the symbol, and a full group ends the collection. -/
theorem collectFollowsItsRule : Obligations.CollectFollowsItsRule := by
  intro s hen hf hon hlow hfits bit buf next full
  have hbuf : (collected s).bitbuf = buf := by
    have hnew : s.newBits = (List.range (min s.cfg.nCar (s.need - s.bitbuf.length))).map bit :=
      (newBits_eq s).trans (List.map_congr_left fun c _ => slice_symbolCore hlow c)
    exact congrArg (s.bitbuf ++ ·) hnew
  have hnext : s.cur + s.cfg.sym = next := rfl
  have hcollected : collected s = { s with bitbuf := buf, cur := next } :=
    congrArg (fun b => { s with bitbuf := b, cur := next }) hbuf
  refine ⟨fun hst => ?lengthField, fun hst => ?body⟩
  case lengthField =>
    rw [exec_collect_of_enabled hen hf hon hst rfl hlow hfits]
    by_cases hfull : buf.length = s.need
    · rw [collectEffect_getLength_of_full (hbuf ▸ hfull), hcollected]
      simp [full, hfull]
    · rw [collectEffect_getLength_of_part (hbuf ▸ hfull), hcollected]
      simp [full, hfull, ← hon, ← hst]
  case body =>
    rw [exec_collect_of_enabled hen hf hon hst rfl hlow hfits]
    by_cases hfull : buf.length = s.need
    · rw [collectEffect_getPayload_of_full (hbuf ▸ hfull), hcollected]
      simp [full, hfull, rxDiscard, hnext]
    · rw [collectEffect_getPayload_of_part (hbuf ▸ hfull), hcollected]
      simp [full, hfull, rxDiscard, hnext, ← hon, ← hst]

/-! `SCAN` (R171, R172). -/

/-- The state of a `SCAN` step whose candidate is settled and whose cursor has advanced (R172). -/
def scanned (s : State) : State := { (if s.replaces s.cur then takeCandidate s.cur s else s) with cur := s.cur + 1 }

theorem scanEffect_eq (s : State) : scanEffect s = settleScan (scanned s) := rfl

theorem scanned_of_replaces (hr : s.replaces s.cur = true) :
    scanned s = { takeCandidate s.cur s with cur := s.cur + 1 } := by rw [scanned, hr]; rfl

theorem scanned_of_not_replaces (hr : s.replaces s.cur = false) : scanned s = { s with cur := s.cur + 1 } := by
  rw [scanned, hr]; rfl

theorem settleScan_of_confirmed (hcand : s.candValid = true) (hpos : s.cur = s.candPos + s.cfg.preLen + 1) :
    settleScan s = confirm s := if_pos (by simp [hcand, hpos])

theorem settleScan_of_kept (hcand : s.candValid = true) (hpos : s.cur ≠ s.candPos + s.cfg.preLen + 1) :
    settleScan s = rxDiscard s.candPos s := by
  simp [settleScan, hcand, hpos]

theorem settleScan_of_passed (hcand : s.candValid = false) : settleScan s = rxDiscard s.cur s := by
  simp [settleScan, hcand]

/-- `dot(w)` as a sum (R171). -/
theorem windowDot_eq {w : Nat} (hlow : s.rxBase ≤ w) :
    s.windowDot w = sumTo s.cfg.preLen fun i => rxAt s (w + i) * s.tblSample 0 i := dot_rxSlice_tblRow hlow 0 _

/-- `E_rx(w)` as a sum (R171). -/
theorem windowEnergy_eq {w : Nat} (hlow : s.rxBase ≤ w) :
    (s.windowEnergy w : Int) = sumTo s.cfg.preLen fun i => rxAt s (w + i) ^ 2 := energyOf_rxSlice hlow _

theorem windowD2_cast (s : State) (w : Nat) : (s.windowD2 w : Int) = s.windowDot w ^ 2 :=
  matchSq_cast s (s.rxSlice w s.cfg.preLen)

/-- The comparisons of R171 and R172 over the integers. -/
theorem replaces_eq (s : State) (w : Nat) :
    s.replaces w =
      (decide ((s.cfg.syncKen * s.energy.getD 0 0 * s.windowEnergy w : Int) < s.cfg.syncKdot * s.windowDot w ^ 2) &&
        (!s.candValid || decide ((s.candD2 * s.windowEnergy w : Int) < s.windowDot w ^ 2 * s.candE))) := by
  rw [State.replaces, State.hit, State.ePre, ← windowD2_cast]
  norm_cast

/-- Settles O39: the candidate as the comparisons leave it decides between confirmation and the two discards. -/
theorem scanFollowsItsRule : Obligations.ScanFollowsItsRule := by
  intro s hen hf hst hidle hlow hfits
  rw [exec_scan_of_enabled hen hf hst hidle hlow hfits, scanEffect_eq, ← windowDot_eq hlow, ← windowEnergy_eq hlow]
  intro d e better pos c
  have hbetter : s.replaces s.cur = better := replaces_eq s s.cur
  have hd2 : (d ^ 2).toNat = s.windowD2 s.cur := by rw [← windowD2_cast, Int.toNat_natCast]
  have hc : scanned s = c := by
    simp only [c, ← hbetter, hd2]
    cases hr : s.replaces s.cur with
    | true => exact scanned_of_replaces hr
    | false => exact scanned_of_not_replaces hr
  obtain ⟨hcur, hcfg, hpos⟩ : c.cur = s.cur + 1 ∧ c.cfg = s.cfg ∧ c.candPos = pos := by
    cases hr : better <;> simp [c, pos, hr]
  clear_value better
  rw [hc]
  refine ⟨fun hcand hat => ?confirmed, fun hcand hat => ?kept, fun hcand => ?passed⟩
  case confirmed =>
    rw [settleScan_of_confirmed hcand (by rw [hcur, hcfg, hpos, hat]), ← hpos]
    cases better <;> rfl
  case kept =>
    rw [settleScan_of_kept hcand (by rw [hcur, hcfg, hpos]; omega), ← hpos]
    cases better <;> rfl
  case passed =>
    rw [settleScan_of_passed hcand, ← hcur]
    cases better <;> rfl

end Sys2Proof.Proofs
end

section
/-! PROOFS. The CRC-8 framer: its two commands, the shift register, and the errors that a residual shows and does not
show (R203 to R208). -/

namespace Sys2Proof.Proofs

open Sys2Proof.Machine Sys2Proof.Claims Sys2Proof.Laws

variable {a c v w : Bits}

/-! The two commands (R204, R205). -/

/-- The check accepts a zero residual (R203). -/
theorem crcCheck_iff (v : Bits) : crcCheck v = true ↔ crcResidual v = List.replicate 8 false := beq_iff_eq

/-- Settles O14: outside the fault state the format of the beat group decides between the answer and the fault. -/
theorem crcCommandsAnswer : Obligations.CrcCommandsAnswer := by
  intro s n ws hf
  simp only [exec, execCrcAppend, execCrcCheck, unlessFaulted_of_running hf]
  refine ⟨fun b hb => ?wellFormatted, fun hnone => ?violated⟩
  case wellFormatted =>
    have hflag : flagBeat (crcCheck b) = if crcResidual b = List.replicate 8 false then 1 else 0 := by
      simp only [flagBeat, crcCheck_iff]
    rw [hb, ← hflag]
    exact ⟨rfl, rfl⟩
  case violated =>
    rw [hnone]
    exact ⟨rfl, rfl⟩

/-! The shift register (R208 (c)). -/

theorem xorPrefix_eq_xorBits (h : a.length = c.length) : xorPrefix a c = xorBits a c := by
  induction a generalizing c with
  | nil => cases c <;> rfl
  | cons x a ih =>
    cases c with
    | nil => cases h
    | cons y c => exact congrArg ((x ^^ y) :: ·) (ih (Nat.succ.inj h))

/-- The shift register does one elimination, of its first bit and the bit that enters (R202, R208 (c)). -/
theorem shiftCrc_cons (x u : Bool) (h : w.length = 7) : shiftCrc (x :: w) u = eliminate (x ^^ u) (w ++ [false]) := by
  have hlen : (w ++ [false]).length = 8 := by simp [h]
  rw [shiftCrc, List.headD_cons]
  cases x ^^ u
  case false => exact hlen ▸ xorBits_zeros (w ++ [false])
  case true => exact (xorPrefix_eq_xorBits (c := genTail) hlen).symm

theorem length_shiftCrc (u : Bool) (h : w.length = 8) : (shiftCrc w u).length = 8 := by
  obtain ⟨x, w, rfl⟩ := List.exists_cons_of_length_eq_add_one h
  have hw : w.length = 7 := Nat.succ.inj h
  rw [shiftCrc_cons x u hw, length_eliminate, List.length_append, hw]
  rfl

/-- One bit more takes the register one step further: the bit stands where the residual's first zero was. -/
theorem crcResidual_concat (b : Bits) (u : Bool) : crcResidual (b ++ [u]) = shiftCrc (crcResidual b) u := by
  obtain ⟨x, r, hr⟩ := List.exists_cons_of_length_eq_add_one (length_crcResidual b)
  have hlen : r.length = 7 := Nat.succ.inj ((congrArg List.length hr).symm.trans (length_crcResidual b))
  have hdivide : divide b.length (b ++ u :: List.replicate 7 false) = (x ^^ u) :: r := by
    rw [divide_append_residual b rfl, hr, xorBits_cons, ← hlen, xorBits_zeros]
  have hsplit : b ++ [u] ++ List.replicate crcBits false = b ++ u :: List.replicate 7 false ++ [false] := by
    simp [crcBits, List.replicate]
  rw [crcResidual, hsplit, List.length_append, divide_add, divide_append _ (by simp), hdivide, hr,
    shiftCrc_cons x u hlen]
  rfl

/-- The residual is what the shift register ends in (R208 (c)). -/
theorem crcResidual_eq_foldl (b : Bits) : crcResidual b = b.foldl shiftCrc (List.replicate 8 false) := by
  induction b using List.reverseRecOn with
  | nil => rfl
  | append_singleton b u ih => rw [crcResidual_concat, ih, List.foldl_concat]

/-! Zeros behind a vector: multiplication by `x` (R206, R207). -/

/-- The step of the shift register on a zero bit: the residual is multiplied by `x`. -/
def timesX (r : Bits) : Bits := shiftCrc r false

theorem timesX_cons (x : Bool) (h : w.length = 7) : timesX (x :: w) = eliminate x (w ++ [false]) := by
  rw [timesX, shiftCrc_cons x false h, Bool.xor_false]

theorem length_timesX (h : w.length = 8) : (timesX w).length = 8 := length_shiftCrc false h

/-- As `G[8] = 1`, a step on a zero bit never makes a register zero (R206). -/
theorem timesX_eq_zeros_iff (h : w.length = 8) : timesX w = List.replicate 8 false ↔ w = List.replicate 8 false := by
  obtain ⟨x, w, rfl⟩ := List.exists_cons_of_length_eq_add_one h
  have hw : w.length = 7 := Nat.succ.inj h
  rw [timesX_cons x hw]
  cases x
  case false =>
    exact (List.append_left_inj (s₂ := List.replicate 7 false) [false]).trans (List.cons_inj_right false).symm
  case true =>
    have hlast : eliminate true (w ++ [false]) = xorBits w [true, true, false, true, false, true, false] ++ [true] := by
      rw [eliminate, if_pos rfl, xorPrefix_eq_xorBits (by simp [hw, genTail])]
      exact xorBits_append (c := [true, true, false, true, false, true, false]) (c' := [true]) hw
    refine iff_of_false (fun hzero => ?_) (by rintro ⟨⟩)
    simpa [hlast] using congrArg List.getLast? hzero

theorem length_iterate_timesX (k : Nat) (h : w.length = 8) : (timesX^[k] w).length = 8 := by
  induction k generalizing w with
  | zero => exact h
  | succ k ih => exact ih (length_timesX h)

theorem iterate_timesX_eq_zeros_iff (k : Nat) (h : w.length = 8) :
    timesX^[k] w = List.replicate 8 false ↔ w = List.replicate 8 false := by
  induction k generalizing w with
  | zero => rfl
  | succ k ih => exact (ih (length_timesX h)).trans (timesX_eq_zeros_iff h)

theorem crcResidual_append_zeros (b : Bits) (k : Nat) :
    crcResidual (b ++ List.replicate k false) = timesX^[k] (crcResidual b) := by
  induction k with
  | zero => rw [List.replicate_zero, List.append_nil]; rfl
  | succ k ih =>
    rw [List.replicate_succ', ← List.append_assoc, crcResidual_concat, ih, Function.iterate_succ_apply']
    rfl

/-- Zeros in front do not change a residual (R207). -/
theorem crcResidual_zeros_append (k : Nat) (b : Bits) : crcResidual (List.replicate k false ++ b) = crcResidual b := by
  rw [crcResidual, List.length_append, List.length_replicate, divide_add, List.append_assoc, divide_zeros_append]
  rfl

theorem crcCheck_append_zeros (b : Bits) (k : Nat) : crcCheck (b ++ List.replicate k false) = crcCheck b := by
  rw [Bool.eq_iff_iff, crcCheck_iff, crcCheck_iff, crcResidual_append_zeros,
    iterate_timesX_eq_zeros_iff k (length_crcResidual b)]

/-- The division of a register with `k` zeros behind it is `k` steps of the register on zeros (R202). -/
theorem divide_append_zeros (k : Nat) (h : w.length = 8) : divide k (w ++ List.replicate k false) = timesX^[k] w := by
  induction k generalizing w with
  | zero => exact List.append_nil w
  | succ k ih =>
    obtain ⟨x, w, rfl⟩ := List.exists_cons_of_length_eq_add_one h
    have hw : w.length = 7 := Nat.succ.inj h
    have hstep : eliminate x (w ++ List.replicate (k + 1) false) = timesX (x :: w) ++ List.replicate k false := by
      rw [List.replicate_succ, List.append_cons, eliminate_append x _ (by simp [hw]), timesX_cons x hw]
    rw [List.cons_append, divide_succ_cons, hstep]
    exact ih (length_timesX h)

/-- The padded division goes on from where the unpadded one ends (R203, R208 (a)). -/
theorem crcResidual_eq_iterate_timesX (h : 8 ≤ v.length) : crcResidual v = timesX^[8] (divide (v.length - 8) v) := by
  have hlen : (divide (v.length - 8) v).length = 8 := by rw [length_divide]; omega
  calc crcResidual v
      = divide (v.length - 8 + 8) (v ++ List.replicate crcBits false) := by rw [Nat.sub_add_cancel h]; rfl
    _ = divide 8 (divide (v.length - 8) v ++ List.replicate crcBits false) := by
        rw [divide_add, divide_append _ (Nat.sub_add_cancel h).le]
    _ = timesX^[8] (divide (v.length - 8) v) := divide_append_zeros 8 hlen

/-- Settles O12: the register does the same eliminations, and the eight further ones of the padding keep zero apart. -/
theorem equivalentCrcForms : Obligations.EquivalentCrcForms := by
  refine ⟨crcResidual_eq_foldl, fun v h => ?_⟩
  have hlen : (divide (v.length - 8) v).length = 8 := by rw [length_divide]; omega
  rw [Bool.eq_iff_iff, crcCheck_iff, decide_eq_true_iff, crcResidual_eq_iterate_timesX h,
    iterate_timesX_eq_zeros_iff 8 hlen]

/-! Errors added to a vector (R206, R207). -/

theorem crcResidual_xorBits (h : a.length = c.length) :
    crcResidual (xorBits a c) = xorBits (crcResidual a) (crcResidual c) := by
  have hpad : xorBits a c ++ List.replicate crcBits false =
      xorBits (a ++ List.replicate crcBits false) (c ++ List.replicate crcBits false) := by
    rw [xorBits_append h, xorBits_self, List.length_replicate]
  rw [crcResidual, length_xorBits h, hpad, divide_xorBits _ (by simp [h]), crcResidual, crcResidual, h]

theorem zeros_xorBits (a : Bits) : xorBits (List.replicate a.length false) a = a := by rw [xorBits_comm, xorBits_zeros]

theorem xorBits_eq_zeros_iff (h : a.length = c.length) : xorBits a c = List.replicate a.length false ↔ a = c := by
  induction a generalizing c with
  | nil => cases c <;> simp_all [xorBits]
  | cons x a ih =>
    cases c with
    | nil => cases h
    | cons y c => simp [xorBits_cons, List.replicate_succ, ih (Nat.succ.inj h)]

/-- An error pattern with the residual zero is not seen (R207). -/
theorem crcCheck_xorBits_of_crcCheck (h : a.length = c.length) (hc : crcCheck c = true) :
    crcCheck (xorBits a c) = crcCheck a := by
  have hres : crcResidual c = List.replicate (crcResidual a).length false :=
    ((crcCheck_iff c).1 hc).trans (by rw [length_crcResidual])
  rw [crcCheck, crcResidual_xorBits h, hres, xorBits_zeros, crcCheck]

/-- Inverting a bit adds a single 1 with `k` zeros behind it. -/
theorem flipBit_eq_xorBits {p k : Nat} (h : v.length = p + (k + 1)) :
    flipBit v p = xorBits v (List.replicate p false ++ ([true] ++ List.replicate k false)) := by
  induction p generalizing v with
  | zero =>
    obtain ⟨x, v, rfl⟩ := List.exists_cons_of_length_eq_add_one (h.trans (Nat.zero_add _))
    have hk : v.length = k := by simpa using h
    simp [flipBit, xorBits_cons, ← hk]
  | succ p ih =>
    obtain ⟨x, v, rfl⟩ := List.exists_cons_of_length_eq_add_one (h.trans (Nat.succ_add p _))
    have htail := ih (v := v) (by rw [List.length_cons] at h; omega)
    rw [List.replicate_succ, List.cons_append, xorBits_cons, Bool.xor_false, ← htail]
    rfl

/-- An inverted bit adds `x^k` times the residual of a single 1, the generator behind its leading 1 (R206). -/
theorem crcResidual_flipBit {p k : Nat} (h : v.length = p + (k + 1)) :
    crcResidual (flipBit v p) = xorBits (crcResidual v) (timesX^[k] genTail) := by
  have hone : crcResidual [true] = genTail := rfl
  rw [flipBit_eq_xorBits h, crcResidual_xorBits (by simp [h]), crcResidual_zeros_append, crcResidual_append_zeros, hone]

@[simp] theorem length_flipBit (b : Bits) (p : Nat) : (flipBit b p).length = b.length := List.length_set

@[simp] theorem length_crcAppend (b : Bits) : (crcAppend b).length = b.length + 8 := by simp [crcAppend]

theorem length_iterate_timesX_genTail (k : Nat) : (timesX^[k] genTail).length = 8 := length_iterate_timesX k rfl

/-- The residual of an appended vector with one bit inverted (R206). -/
theorem crcResidual_flipBit_crcAppend {b : Bits} {p k : Nat} (h : b.length + 8 = p + (k + 1)) :
    crcResidual (flipBit (crcAppend b) p) = timesX^[k] genTail := by
  rw [crcResidual_flipBit ((length_crcAppend b).trans h), (crcCheck_iff _).1 (crcCheck_crcAppend b),
    ← length_iterate_timesX_genTail k, zeros_xorBits]

/-- Settles O10: an inverted bit adds a power of `x` times the residual of a single 1, which is never zero. -/
theorem singleBitErrorsAreCaught : Obligations.SingleBitErrorsAreCaught := by
  refine ⟨fun b => ⟨length_crcAppend b, crcCheck_crcAppend b, fun p hp => ?_⟩, fun a c => crcResidual_xorBits⟩
  obtain ⟨k, hk⟩ : ∃ k, b.length + 8 = p + (k + 1) := Nat.exists_eq_add_of_lt hp
  rw [Bool.eq_false_iff, ne_eq, crcCheck_iff, crcResidual_flipBit_crcAppend hk, iterate_timesX_eq_zeros_iff k rfl]
  decide

/-! The order of `x` modulo the generator (R207). -/

/-- `x^93` is 1 modulo the generator; the residual after each third of the way is written out. -/
theorem isPeriodicPt_timesX_genTail : Function.IsPeriodicPt timesX 93 genTail := by
  have third : timesX^[31] genTail = [false, true, false, true, true, false, true, true] := by decide
  have twoThirds : timesX^[31] [false, true, false, true, true, false, true, true] =
      [true, false, false, true, false, false, true, false] := by decide
  have whole : timesX^[31] [true, false, false, true, false, false, true, false] = genTail := by decide
  calc timesX^[31 + (31 + 31)] genTail
      = timesX^[31] (timesX^[31] (timesX^[31] genTail)) := by
        rw [Function.iterate_add_apply, Function.iterate_add_apply]
    _ = genTail := by rw [third, twoThirds, whole]

/-- The order of `x` is 93: no proper divisor of 93 is a period of the residual of a single 1 (R207). -/
theorem minimalPeriod_timesX_genTail : Function.minimalPeriod timesX genTail = 93 := by
  have hdvd : Function.minimalPeriod timesX genTail ∣ 93 := isPeriodicPt_timesX_genTail.minimalPeriod_dvd
  have h3 : ¬ Function.minimalPeriod timesX genTail ∣ 3 :=
    Function.isPeriodicPt_iff_minimalPeriod_dvd.not.1 (by decide)
  have h31 : ¬ Function.minimalPeriod timesX genTail ∣ 31 :=
    Function.isPeriodicPt_iff_minimalPeriod_dvd.not.1 (by decide)
  have hdivisors : ∀ m ∈ Nat.divisors 93, ¬ m ∣ 3 → ¬ m ∣ 31 → m = 93 := by decide
  exact hdivisors _ (Nat.mem_divisors.2 ⟨hdvd, by decide⟩) h3 h31

/-- A single 1 with `k + d` zeros behind it and one with `k` have one residual exactly at multiples of the order. -/
theorem iterate_timesX_add_eq_iff (d k : Nat) : timesX^[d + k] genTail = timesX^[k] genTail ↔ 93 ∣ d := by
  have hperiodic : genTail ∈ Function.periodicPts timesX := ⟨93, by decide, isPeriodicPt_timesX_genTail⟩
  rw [Function.iterate_add_apply, ← minimalPeriod_timesX_genTail,
    ← Function.minimalPeriod_apply_iterate hperiodic k]
  exact Function.isPeriodicPt_iff_minimalPeriod_dvd

/-- The generator at any alignment has the residual zero (R207). -/
theorem crcCheck_generator (p k : Nat) :
    crcCheck (List.replicate p false ++ generator ++ List.replicate k false) = true := by
  have hgen : crcResidual generator = List.replicate 8 false := rfl
  rw [crcCheck_append_zeros, crcCheck_iff, crcResidual_zeros_append, hgen]

theorem crcCheck_flipBit_flipBit_crcAppend (b : Bits) {i j : Nat} (hij : i < j) (hj : j < b.length + 8) :
    crcCheck (flipBit (flipBit (crcAppend b) i) j) = true ↔ 93 ∣ j - i := by
  obtain ⟨k, hk⟩ : ∃ k, b.length + 8 = j + (k + 1) := Nat.exists_eq_add_of_lt hj
  have hi : b.length + 8 = i + (j - i + k + 1) := by omega
  have hlen := length_iterate_timesX_genTail
  rw [crcCheck_iff, crcResidual_flipBit (k := k) (by simp [hk]), crcResidual_flipBit_crcAppend hi, ← hlen (j - i + k),
    xorBits_eq_zeros_iff ((hlen _).trans (hlen _).symm), iterate_timesX_add_eq_iff]

/-- Settles O13: the generator's residual is zero, two bits cancel at multiples of the order, zeros are dropped. -/
theorem undetectedPatterns : Obligations.UndetectedPatterns := by
  refine ⟨fun v p hp => crcCheck_xorBits_of_crcCheck ?_ (crcCheck_generator p _),
    fun b i j => crcCheck_flipBit_flipBit_crcAppend b, fun b k => ⟨?_, crcResidual_zeros_append k b⟩⟩
  · simp; omega
  · exact crcCheck_append_zeros [] k

end Sys2Proof.Proofs
end

section
/-! PROOFS. The residual is the remainder of the polynomial division (R201, R208 (b)). -/

namespace Sys2Proof.Proofs

open Sys2Proof.Machine Sys2Proof.Claims Sys2Proof.Laws

variable {a c w : Bits}

/-! The polynomial of a vector (R208 (b)). -/

theorem bitPoly_cons (x : Bool) (w : Bits) :
    bitPoly (x :: w) = (if x then Polynomial.X ^ w.length else 0) + bitPoly w := by
  simp [bitPoly, List.range_succ_eq_map, Function.comp_def, Nat.sub_sub, Nat.add_comm 1]

theorem bitPoly_nil : bitPoly [] = 0 := rfl

theorem bitPoly_zeros (n : Nat) : bitPoly (List.replicate n false) = 0 := by
  induction n with
  | zero => rfl
  | succ n ih => rw [List.replicate_succ, bitPoly_cons, ih, if_neg Bool.false_ne_true, add_zero]

theorem bitPoly_append (a c : Bits) : bitPoly (a ++ c) = bitPoly a * Polynomial.X ^ c.length + bitPoly c := by
  induction a with
  | nil => rw [List.nil_append, bitPoly_nil, zero_mul, zero_add]
  | cons x a ih =>
    rw [List.cons_append, bitPoly_cons, bitPoly_cons, ih, List.length_append]
    cases x <;> simp [pow_add, add_mul, add_assoc]

theorem bitPoly_xorBits (h : a.length = c.length) : bitPoly (xorBits a c) = bitPoly a + bitPoly c := by
  induction a generalizing c with
  | nil => cases c <;> simp_all [xorBits, bitPoly_nil]
  | cons x a ih =>
    cases c with
    | nil => cases h
    | cons y c =>
      have hlen : a.length = c.length := Nat.succ.inj h
      have hbit : (if x ^^ y then Polynomial.X ^ a.length else (0 : Polynomial (ZMod 2))) =
          (if x then Polynomial.X ^ a.length else 0) + (if y then Polynomial.X ^ a.length else 0) := by
        cases x <;> cases y <;> simp [CharTwo.add_self_eq_zero]
      rw [xorBits_cons, bitPoly_cons, bitPoly_cons, bitPoly_cons, ih hlen, length_xorBits hlen, ← hlen, hbit]
      exact add_add_add_comm _ _ _ _

theorem degree_bitPoly_lt (w : Bits) : (bitPoly w).degree < w.length := by
  induction w with
  | nil => simp [bitPoly_nil]
  | cons x w ih =>
    have hbit : (if x then Polynomial.X ^ w.length else (0 : Polynomial (ZMod 2))).degree < (w.length + 1 : Nat) := by
      cases x
      · simp
      · rw [if_pos rfl, Polynomial.degree_X_pow]
        exact_mod_cast Nat.lt_succ_self _
    rw [bitPoly_cons, List.length_cons]
    exact (Polynomial.degree_add_le _ _).trans_lt (max_lt hbit (ih.trans (by exact_mod_cast Nat.lt_succ_self _)))

/-- The generator list is the generator polynomial (R201). -/
theorem bitPoly_generator : bitPoly generator = crcPoly := by
  simp [generator, genTail, bitPoly_cons, bitPoly_nil, crcPoly, add_assoc]

theorem degree_crcPoly : crcPoly.degree = 8 := by
  unfold crcPoly
  compute_degree!

theorem monic_crcPoly : crcPoly.Monic := by
  unfold crcPoly
  monicity!

/-! The division keeps the remainder (R202, R208 (b)). -/

/-- An elimination adds a multiple of the generator (R202). -/
theorem bitPoly_eliminate_modByMonic (x : Bool) (h : 8 ≤ w.length) :
    bitPoly (eliminate x w) %ₘ crcPoly = bitPoly (x :: w) %ₘ crcPoly := by
  cases x
  case false => rw [bitPoly_cons, if_neg Bool.false_ne_true, zero_add]; rfl
  case true =>
    obtain ⟨u, t, rfl, hu⟩ : ∃ u t, w = u ++ t ∧ u.length = 8 :=
      ⟨w.take 8, w.drop 8, (List.take_append_drop 8 w).symm, List.length_take_of_le h⟩
    have hadd : bitPoly (eliminate true u) = bitPoly (true :: u) + crcPoly := by
      calc bitPoly (eliminate true u)
          = bitPoly (false :: xorBits u genTail) := by
            rw [bitPoly_cons, if_neg Bool.false_ne_true, zero_add, ← xorPrefix_eq_xorBits (c := genTail) hu]; rfl
        _ = bitPoly (xorBits (true :: u) generator) := rfl
        _ = bitPoly (true :: u) + crcPoly := by
            rw [bitPoly_xorBits (congrArg (· + 1) hu), bitPoly_generator]
    refine Polynomial.modByMonic_eq_of_dvd_sub monic_crcPoly ⟨Polynomial.X ^ t.length, ?_⟩
    rw [eliminate_append true t hu.ge, ← List.cons_append, bitPoly_append, bitPoly_append, hadd]
    ring

theorem bitPoly_divide_modByMonic {n : Nat} (h : n + 8 ≤ w.length) :
    bitPoly (divide n w) %ₘ crcPoly = bitPoly w %ₘ crcPoly := by
  induction n generalizing w with
  | zero => rfl
  | succ n ih =>
    cases w with
    | nil => simp at h
    | cons x w =>
      rw [List.length_cons] at h
      rw [divide_succ_cons, ih (by rw [length_eliminate]; omega), bitPoly_eliminate_modByMonic x (by omega)]

/-- Settles O11: every elimination keeps the remainder, and eight bits are their own. -/
theorem residualIsPolynomialRemainder : Obligations.ResidualIsPolynomialRemainder := by
  intro b
  have hdegree : (bitPoly (crcResidual b)).degree < crcPoly.degree := by
    rw [degree_crcPoly]
    simpa using degree_bitPoly_lt (crcResidual b)
  refine ⟨length_crcResidual b, ?_⟩
  calc bitPoly (crcResidual b)
      = bitPoly (crcResidual b) %ₘ crcPoly := ((Polynomial.modByMonic_eq_self_iff monic_crcPoly).2 hdegree).symm
    _ = bitPoly (b ++ List.replicate crcBits false) %ₘ crcPoly := bitPoly_divide_modByMonic (by simp [crcBits])
    _ = (bitPoly b * Polynomial.X ^ 8) %ₘ crcPoly := by
        rw [bitPoly_append, bitPoly_zeros, add_zero, List.length_replicate]; rfl

end Sys2Proof.Proofs
end

section
/-! PROOFS. The carrier-sense detector under `TICK`s: it does not read the receiver (R210, R214), and its sum is that of
the last `CS_WIN` inputs (R213). -/

namespace Sys2Proof.Proofs

open Sys2Proof.Machine Sys2Proof.Claims Sys2Proof.Laws

variable {s s' t t' : State} {c : CfgRegs} {x : Sample} {ys : List Sample}

/-! What a `TICK` does to the detector (R212, R221). -/

/-- The state of the detector: delay line, sum, `busy`, `collision` (R22, R44). -/
def detector (s : State) : List Sample × Int × Bool × Bool := (s.csHist, s.csSum, s.busy, s.collision)

/-- Of the four effects of a `TICK` only the carrier-sense update moves the detector. -/
theorem detector_tickEffect (x : Sample) (s : State) : detector (tickEffect x s) = detector (carrierSense x s) :=
  (congrArg detector (tickFront_move x s).frame :)

/-- The update is a function of the detector, the configuration and the input (R212). -/
theorem detector_carrierSense_congr (hcfg : s.cfg = s'.cfg) (hhist : s.csHist = s'.csHist) (hsum : s.csSum = s'.csSum)
    (x : Sample) : detector (carrierSense x s) = detector (carrierSense x s') := by
  simp [detector, State.csNext, State.csOld, hcfg, hhist, hsum]

/-- A `TICK` of an enabled block that leaves no fault had its four effects (R221). -/
theorem eq_tickEffect_of_not_faulted (h : exec (.tick x) s = .next t) (hen : s.en = true) (hf : t.fault = false) :
    t = tickEffect x s := by
  rcases execTick_cases h with ⟨hoff | hoff, rfl⟩ | ⟨-, -, -, rfl⟩ | ⟨-, -, -, rfl⟩
  · simp [hen] at hoff
  · simp [hoff] at hf
  · simp at hf
  · rfl

/-- A `TICK` of a running block whose ring has room has its four effects (R221). -/
theorem eq_tickEffect_of_room (h : exec (.tick x) s = .next t) (hen : s.en = true) (hf : s.fault = false)
    (hroom : s.rx.length ≠ s.prm.rxqCap) : t = tickEffect x s := by
  rcases execTick_cases h with ⟨hoff, -⟩ | ⟨-, -, hfull, -⟩ | ⟨-, -, -, rfl⟩
  · simp [hen, hf] at hoff
  · exact absurd hfull hroom
  · rfl

/-- Settles O36: both `TICK`s leave the detector as the same update does. -/
theorem carrierSenseIgnoresTheReceiver : Obligations.CarrierSenseIgnoresTheReceiver := by
  intro s s' t t' x hen hen' hf hf' hroom hroom' hcfg hhist hsum h h'
  have same : detector t = detector t' := by
    rw [eq_tickEffect_of_room h hen hf hroom, eq_tickEffect_of_room h' hen' hf' hroom', detector_tickEffect,
      detector_tickEffect, detector_carrierSense_congr hcfg hhist hsum]
  simpa only [detector, Prod.mk.injEq] using same

/-! The window over a run of `TICK`s (R213). -/

/-- The newest `n` of the inputs `ys`, newest first, zeros before the first of them. -/
def newest (n : Nat) (ys : List Sample) : List Sample := (List.range n).map fun j => ys.getD j 0

theorem newest_nil (n : Nat) : newest n [] = List.replicate n 0 := by simp [newest, List.map_const']

theorem newest_succ_cons (n : Nat) (x : Sample) (ys : List Sample) : newest (n + 1) (x :: ys) = x :: newest n ys := by
  simp [newest, List.range_succ_eq_map, Function.comp_def]

theorem length_newest (n : Nat) (ys : List Sample) : (newest n ys).length = n := by simp [newest]

theorem take_newest {m n : Nat} (h : m ≤ n) (ys : List Sample) : (newest n ys).take m = newest m ys := by
  rw [newest, ← List.map_take, List.take_range, Nat.min_eq_left h, newest]

/-- A block enabled with the registers `c` whose detector has heard the inputs `ys`, newest first, from a window of
zeros: the flags are compared by a `TICK`, so nothing is said of them before the first. -/
structure Heard (c : CfgRegs) (ys : List Sample) (s : State) : Prop where
  enabled : s.en = true
  cfg : s.cfg = c
  reach : 1 ≤ s.cfg.csWin ∧ s.cfg.csWin ≤ s.csHist.length
  window : s.csHist.take s.cfg.csWin = newest s.cfg.csWin ys
  sum : s.csSum = windowPower s
  flags : ys ≠ [] → s.busy = above s.csSum s.cfg.thBusy ∧ s.collision = above s.csSum s.cfg.thColl

namespace Heard

/-- Before the first input the window is the zeros of R48. -/
theorem start (hen : s.en = true) (hwf : s.wfConfig = true) (hhist : s.csHist = List.replicate s.prm.csWinMax 0)
    (hsum : s.csSum = 0) : Heard s.cfg [] s := by
  obtain ⟨hregs, -⟩ := (wfConfig_iff s).1 hwf
  obtain ⟨-, -, -, -, -, -, -, ⟨hlow, hhigh⟩, hpow, -⟩ := (wfRegs_iff s).1 hregs
  exact
    { enabled := hen
      cfg := rfl
      reach := ⟨hlow, by simpa [hhist] using hhigh⟩
      window := by rw [newest_nil, hhist, List.take_replicate, Nat.min_eq_left hhigh]
      sum := hsum.trans (windowPower_of_zeros (by omega) hhist).symm
      flags := fun h => absurd rfl h }

/-- The update puts the input in front and drops the oldest sample of the window (R212). -/
theorem carrierSense (h : Heard c ys s) (x : Sample) : Heard c (x :: ys) (carrierSense x s) where
  enabled := h.enabled
  cfg := h.cfg
  reach := ⟨h.reach.1, h.reach.2.trans_eq (length_csHist_carrierSense h.reach.1 h.reach.2 x).symm⟩
  window := by
    obtain ⟨n, hn⟩ := Nat.exists_eq_add_of_le' h.reach.1
    have hwindow : s.csHist.take (n + 1) = newest (n + 1) ys := hn ▸ h.window
    have hrest : s.csHist.take n = newest n ys := by
      rw [← take_newest n.le_succ, ← hwindow, List.take_take, Nat.min_eq_left n.le_succ]
    rw [carrierSense_cfg, carrierSense_csHist, hn, Nat.add_sub_cancel, hrest, List.take_succ_cons,
      List.take_left' (length_newest n ys), newest_succ_cons]
  sum := csNext_eq_windowPower h.reach.1 h.reach.2 h.sum x
  flags := fun _ => ⟨rfl, rfl⟩

/-- Nothing is said of what lies outside the detector. -/
theorem congr (h : Heard c ys s) (hen : t.en = s.en) (hcfg : t.cfg = s.cfg) (hdet : detector t = detector s) :
    Heard c ys t := by
  simp only [detector, Prod.mk.injEq] at hdet
  obtain ⟨hhist, hsum, hbusy, hcoll⟩ := hdet
  have hpower : windowPower t = windowPower s := by rw [windowPower, windowPower, hhist, hcfg]
  exact
    { enabled := hen ▸ h.enabled
      cfg := hcfg ▸ h.cfg
      reach := by rw [hcfg, hhist]; exact h.reach
      window := by rw [hcfg, hhist]; exact h.window
      sum := by rw [hsum, hpower]; exact h.sum
      flags := by rw [hcfg, hsum, hbusy, hcoll]; exact h.flags }

theorem tick (h : Heard c ys s) (htick : exec (.tick x) s = .next t) (hf : t.fault = false) : Heard c (x :: ys) t := by
  rw [eq_tickEffect_of_not_faulted htick h.enabled hf]
  exact (h.carrierSense x).congr (tickFront_move x s).en (tickFront_move x s).cfg (detector_tickEffect x s)

/-- A fault stays, so none of the `TICK`s of a run that ends without one has faulted. -/
theorem ticks {xs : List Sample} (h : Heard c ys s) (hf : (afterTicks xs s).fault = false) :
    Heard c (xs.reverse ++ ys) (afterTicks xs s) := by
  induction xs generalizing s ys with
  | nil => exact h
  | cons x xs ih =>
    obtain ⟨t, ht⟩ := exists_exec_tick x s
    rw [afterTicks_cons ht] at hf ⊢
    have hft : t.fault = false :=
      Bool.eq_false_iff.2 fun hon => Bool.eq_false_iff.1 hf (afterTicks_keeps_fault xs hon)
    rw [List.reverse_cons, List.append_assoc]
    exact ih (h.tick ht hft) hf

/-- The closed form of the sum (R213). -/
theorem csSum_eq (h : Heard c ys s) : s.csSum = sumTo c.csWin fun j => ys.getD j 0 ^ c.csPow := by
  rw [h.sum, windowPower, h.window, newest, List.map_map, h.cfg]
  rfl

end Heard

/-! Sums of even powers of samples (R8, R31, R211). -/

theorem sumTo_nonneg {n : Nat} {f : Nat → Int} (hf : ∀ j, 0 ≤ f j) : 0 ≤ sumTo n f := by
  rw [sumTo_eq_sum]
  exact Finset.sum_nonneg fun j _ => hf j

theorem sumTo_eq_zero_iff {n : Nat} {f : Nat → Int} (hf : ∀ j, 0 ≤ f j) : sumTo n f = 0 ↔ ∀ j < n, f j = 0 := by
  rw [sumTo_eq_sum, Finset.sum_eq_zero_iff_of_nonneg fun j _ => hf j]
  simp only [Finset.mem_range]

theorem sumTo_le_mul {n : Nat} {f : Nat → Int} {b : Int} (hf : ∀ j, f j ≤ b) : sumTo n f ≤ n * b := by
  rw [sumTo_eq_sum]
  simpa using Finset.sum_le_card_nsmul (Finset.range n) f b fun j _ => hf j

theorem isSample_getD {p : Params} (h : ∀ v ∈ ys, p.isSample v = true) (j : Nat) : p.isSample (ys.getD j 0) = true := by
  by_cases hj : j < ys.length
  · rw [List.getD_eq_getElem _ _ hj]
    exact h _ (List.getElem_mem hj)
  · rw [List.getD_eq_default _ _ (by omega)]
    exact isSample_zero p

/-- An even power of a sample is at most that of the smallest sample (R8). -/
theorem pow_le_of_isSample {p : Params} {v : Sample} {k : Nat} (hk : Even k) (hv : p.isSample v = true) :
    v ^ k ≤ 2 ^ (k * (p.sw - 1)) := by
  have habs : |v| ≤ 2 ^ (p.sw - 1) := by
    obtain ⟨hlow, hhigh⟩ := (isSample_iff p v).1 hv
    simp only [Params.smin, Params.smax] at hlow hhigh
    exact abs_le.2 ⟨hlow, by linarith⟩
  calc v ^ k = |v| ^ k := (hk.pow_abs v).symm
    _ ≤ (2 ^ (p.sw - 1)) ^ k := pow_le_pow_left₀ (abs_nonneg v) habs k
    _ = 2 ^ (k * (p.sw - 1)) := by rw [← pow_mul, Nat.mul_comm]

/-- `clog2(n)` bits count to `n` (R31). -/
theorem le_two_pow_clog2 (n : Nat) : n ≤ 2 ^ clog2 n := by
  unfold clog2
  split
  · simpa
  · have := Nat.lt_log2_self (n := n - 1)
    omega

/-- The width of the thresholds holds the largest sum of a window (R31, R213). -/
theorem window_mul_pow_lt {p : Params} {n k : Nat} (hn : n ≤ p.csWinMax) (hk : k ≤ 4) :
    n * 2 ^ (k * (p.sw - 1)) < 2 ^ p.thw := by
  have hwin : n < 2 ^ clog2 (p.csWinMax + 1) := (Nat.lt_succ_of_le hn).trans_le (le_two_pow_clog2 _)
  calc n * 2 ^ (k * (p.sw - 1)) < 2 ^ clog2 (p.csWinMax + 1) * 2 ^ (k * (p.sw - 1)) :=
        Nat.mul_lt_mul_of_pos_right hwin (Nat.two_pow_pos _)
    _ ≤ 2 ^ clog2 (p.csWinMax + 1) * 2 ^ (4 * (p.sw - 1)) :=
        Nat.mul_le_mul_left _ (Nat.pow_le_pow_right (by omega) (Nat.mul_le_mul_right _ hk))
    _ = 2 ^ p.thw := by rw [← pow_add, Nat.add_comm, Params.thw]

/-- A window of samples has a sum of even powers in the range of R213. -/
theorem sumTo_pow_le_of_isSample {p : Params} {k : Nat} (hk : Even k) (h : ∀ v ∈ ys, p.isSample v = true) (n : Nat) :
    (sumTo n fun j => ys.getD j 0 ^ k) ≤ n * 2 ^ (k * (p.sw - 1)) :=
  sumTo_le_mul fun j => pow_le_of_isSample hk (isSample_getD h j)

/-! The flags (R212, R213). -/

theorem above_iff (sum : Int) (threshold : Nat) : above sum threshold = true ↔ (threshold : Int) < sum :=
  decide_eq_true_iff

/-- What exceeds a threshold exceeds every lower one. -/
theorem above_mono {low high : Nat} {sum : Int} (h : low ≤ high) (ha : above sum high = true) :
    above sum low = true := by
  rw [above_iff] at ha ⊢
  omega

theorem above_zero_iff_ne {sum : Int} (h : 0 ≤ sum) : above sum 0 = true ↔ sum ≠ 0 := by
  rw [above_iff]
  omega

/-- Settles O37: the run of `TICK`s leaves the inputs in the window, and every term of the sum is an even power. -/
theorem slidingSumHasItsClosedForm : Obligations.SlidingSumHasItsClosedForm := by
  intro s xs hen _ hwf hhist hsum hxs hfault t x
  have heard : Heard s.cfg (xs.reverse ++ []) t := (Heard.start hen hwf hhist hsum).ticks hfault
  rw [List.append_nil] at heard
  obtain ⟨hbusy, hcoll⟩ := heard.flags (by simpa using hxs)
  obtain ⟨hregs, -⟩ := (wfConfig_iff s).1 hwf
  obtain ⟨-, -, -, -, -, -, -, ⟨-, hwin⟩, hpow, hth⟩ := (wfRegs_iff s).1 hregs
  have heven : Even s.cfg.csPow := by rcases hpow with h | h <;> rw [h] <;> decide
  have hterm : ∀ j, 0 ≤ x j ^ s.cfg.csPow := fun j => heven.pow_nonneg (x j)
  have hclosed : t.csSum = sumTo s.cfg.csWin fun j => x j ^ s.cfg.csPow := heard.csSum_eq
  have hnonneg : 0 ≤ t.csSum := hclosed ▸ sumTo_nonneg hterm
  have hzero : t.csSum = 0 ↔ ∀ j < s.cfg.csWin, x j = 0 := by
    rw [hclosed, sumTo_eq_zero_iff hterm]
    simp only [pow_eq_zero_iff (show s.cfg.csPow ≠ 0 by omega)]
  rw [heard.cfg] at hbusy hcoll
  refine ⟨hclosed, hnonneg, fun hsamples => ?range, hzero, fun hon => ?collision, fun hth0 => ?busy⟩
  case range =>
    have hbound : t.csSum ≤ s.cfg.csWin * 2 ^ (s.cfg.csPow * (s.prm.sw - 1)) :=
      hclosed ▸ sumTo_pow_le_of_isSample heven (fun v hv => hsamples v (List.mem_reverse.1 hv)) s.cfg.csWin
    exact ⟨hbound, hbound.trans_lt (mod_cast window_mul_pow_lt hwin (show s.cfg.csPow ≤ 4 by omega))⟩
  case collision => exact hbusy ▸ above_mono hth (hcoll ▸ hon)
  case busy =>
    rw [hbusy, hth0, above_zero_iff_ne hnonneg, ne_eq, hzero]
    push Not
    rfl

end Sys2Proof.Proofs
end

section
/-! PROOFS. The sample port: the answer of a `TICK`, what of it does not depend on the input, and the elements that the
operations of PORT and RXSYNC leave as they are (R75, R76, R212, R221). -/

namespace Sys2Proof.Proofs

open Sys2Proof.Machine Sys2Proof.Claims Sys2Proof.Laws

variable {s t : State} {x : Sample}

/-! The answer of a `TICK` (R221). -/

theorem exec_tick_of_idle (h : s.en = false ∨ s.fault = true) (x : Sample) :
    exec (.tick x) s = .next (putSample 0 s) :=
  congrArg Host.Outcome.next (if_pos (by simpa using h))

theorem exec_tick_of_full (hen : s.en = true) (hf : s.fault = false) (hfull : s.rx.length = s.prm.rxqCap) (x : Sample) :
    exec (.tick x) s = .next (putSample 0 (raiseFault .rxqOvf s)) := by
  simp [exec, execTick, hen, hf, State.rxFull, hfull]

theorem exec_tick_of_room (hen : s.en = true) (hf : s.fault = false) (hroom : s.rx.length ≠ s.prm.rxqCap) (x : Sample) :
    exec (.tick x) s = .next (tickEffect x s) := by
  simp [exec, execTick, hen, hf, State.rxFull, hroom]

/-- Settles O33: the two answers of a `TICK` without its four effects. -/
theorem tickIdleOrOverflow : Obligations.TickIdleOrOverflow :=
  fun _ x => ⟨fun hidle => exec_tick_of_idle hidle x, fun hen hf hfull => exec_tick_of_full hen hf hfull x⟩

/-! The four effects (R221). -/

/-- The delay line holds the sample that leaves the window, so that any value may stand for one past its end (log 8). -/
theorem csOld_eq_getD (hlow : 1 ≤ s.cfg.csWin) (hhigh : s.cfg.csWin ≤ s.csHist.length) (d : Sample) :
    s.csOld = s.csHist.getD (s.cfg.csWin - 1) d := by
  have hin : s.cfg.csWin - 1 < s.csHist.length := by omega
  rw [State.csOld, List.getD_eq_getElem _ _ hin, List.getD_eq_getElem _ _ hin]

/-- The effects of a `TICK` before its closure, written out for the sum that the update makes (R212, R75, R76). -/
theorem tickFront_of_csNext {sum : Int} (hsum : s.csNext x = sum) :
    tickFront x s =
      { s with
        rx := s.rx ++ [x]
        csSum := sum
        csHist := x :: (s.csHist.take (s.cfg.csWin - 1) ++ s.csHist.drop s.cfg.csWin)
        busy := above sum s.cfg.thBusy
        collision := above sum s.cfg.thColl
        txq := s.txq.tail } := by
  subst hsum; rfl

/-- A pushed sample lies beyond every position of the receiver (R75). -/
theorem RingPositions_tickFront (h : RingPositions s) (x : Sample) : RingPositions (tickFront x s) where
  lengths := h.lengths
  cursor := by
    have hpush : (tickFront x s).rxWr = s.rxWr + 1 := by simp [State.rxWr, tickFront, Nat.add_assoc]
    obtain ⟨hlow, hhigh⟩ := h.cursor
    exact ⟨hlow, hpush ▸ Nat.le_succ_of_le hhigh⟩
  candidate := h.candidate
  saved := h.saved

/-- Settles O32: the effects before the closure are those written out, and the closure runs from there. -/
theorem tickDoesItsFourEffects : Obligations.TickDoesItsFourEffects := by
  intro s x hen hf hroom hlow hhigh sum u v
  have hsum : s.csNext x = sum := by rw [State.csNext, csOld_eq_getD hlow hhigh 0]; rfl
  have hu : tickFront x s = u := tickFront_of_csNext hsum
  have hanswer : exec (.tick x) s = .next (returned (s.txq.headD 0) v) := by
    rw [exec_tick_of_room hen hf hroom, tickEffect_eq, hu]; rfl
  have hrest : RingPositions s → rxStep v = none := fun h => rxClosure_rests (hu ▸ RingPositions_tickFront h x)
  exact ⟨hanswer, SyncSteps_rxClosure u, (rxClosure_move u).frame, hrest⟩

/-! The input does not reach the output (R221). -/

/-- What a `TICK` shows at the ports and leaves to be sent: sample output, transmit queue, ports. -/
def transmitSide (s : State) : Sample × List Sample × Ports := (s.sampleOut, s.txq, s.ports)

/-- Of the four effects of a `TICK` only the transmit pop moves the transmit side. -/
theorem transmitSide_tickEffect (x : Sample) (s : State) :
    transmitSide (tickEffect x s) = transmitSide (putSample s.txqHead (txqPop s)) :=
  (congrArg (fun r => transmitSide (putSample s.txqHead r)) (tickFront_move x s).frame :)

/-- Settles O35: which answer a `TICK` gives is decided without the input, and each leaves a transmit side in which the
input does not occur. -/
theorem outputIgnoresInput : Obligations.OutputIgnoresInput := by
  intro s t t' x x' h h'
  have same : transmitSide t = transmitSide t' := by
    rcases execTick_cases h with ⟨hidle, rfl⟩ | ⟨hen, hf, hfull, rfl⟩ | ⟨hen, hf, hroom, rfl⟩
    · cases h'.symm.trans (exec_tick_of_idle hidle x'); rfl
    · cases h'.symm.trans (exec_tick_of_full hen hf hfull x'); rfl
    · rw [eq_tickEffect_of_room h' hen hf hroom, transmitSide_tickEffect, transmitSide_tickEffect]
  simpa only [transmitSide, Prod.mk.injEq] using same

/-! The frame of the operations of PORT and RXSYNC (R185, R190, R212, R221). -/

theorem ReceiverMove.busy (h : ReceiverMove s t) : t.busy = s.busy := (congrArg State.busy h.frame :)
theorem ReceiverMove.collision (h : ReceiverMove s t) : t.collision = s.collision :=
  (congrArg State.collision h.frame :)
theorem ReceiverMove.csSum (h : ReceiverMove s t) : t.csSum = s.csSum := (congrArg State.csSum h.frame :)
theorem ReceiverMove.inp (h : ReceiverMove s t) : t.ports.inp = s.ports.inp := congrArg Ports.inp h.ports
theorem ReceiverMove.cmdOut (h : ReceiverMove s t) : t.ports.cmdOut = s.ports.cmdOut := congrArg Ports.cmdOut h.ports
theorem ReceiverMove.smpOut (h : ReceiverMove s t) : t.ports.smpOut = s.ports.smpOut := congrArg Ports.smpOut h.ports

/-- A move of the receiver touches neither the transmit side nor the fault registers nor the detector (R83, R210). -/
theorem ReceiverMove.keeps_rest (h : ReceiverMove s t) :
    t.txq = s.txq ∧ t.fault = s.fault ∧ t.faultCode = s.faultCode ∧ t.busy = s.busy ∧ t.collision = s.collision ∧
      t.csHist = s.csHist ∧ t.csSum = s.csSum ∧ t.sampleOut = s.sampleOut ∧ t.ports.smpOut = s.ports.smpOut :=
  ⟨h.txq, h.fault, h.faultCode, h.busy, h.collision, h.csHist, h.csSum, h.sampleOut, h.smpOut⟩

/-- Settles O53: of the effects an operation can have, those of PORT and RXSYNC are a move of the receiver, after the
popped beats of an `RX_POP` or the first three effects of a `TICK`, or a `TICK` that leaves the receiver alone. -/
theorem receiveOperationsFrame : Obligations.ReceiveOperationsFrame := by
  intro i s t hi hr h
  cases exec_effect h with
  | raised _ _ hhost | answered _ _ hhost => exact nomatch hhost.symm.trans hi
  | reset => exact absurd rfl hr
  | enabled | registerWritten | entryWritten | frameQueued | aborted => exact nomatch hi
  | idle => exact ⟨rfl, rfl, rfl, rfl, rfl, fun _ => (ReceiverMove.refl s).keeps_rest, fun _ => rfl⟩
  | synced _ _ _ hstep =>
    have m := rxStep_move hstep
    exact ⟨m.en, m.cfg, m.tbl, m.energy, m.inp, fun _ => m.keeps_rest, fun _ => m.cmdOut⟩
  | popped =>
    have m := popFront_move s
    exact ⟨m.en, m.cfg, m.tbl, m.energy, m.inp, fun _ => m.keeps_rest, fun hpop => absurd rfl hpop⟩
  | idleTick x | overflowTick x =>
    exact ⟨rfl, rfl, rfl, rfl, rfl, fun htick => absurd rfl (htick x), fun _ => rfl⟩
  | ticked x =>
    have m := tickFront_move x s
    exact ⟨m.en, m.cfg, m.tbl, m.energy, m.inp, fun htick => absurd rfl (htick x), fun _ => m.cmdOut⟩

end Sys2Proof.Proofs
end

section
/-! PROOFS. Faults: an operation that raises one does nothing else, and the fault state is left by `SRESET` only
(R230 to R232). -/

namespace Sys2Proof.Proofs

open Sys2Proof.Machine Sys2Proof.Claims Sys2Proof.Laws

variable {s t : State} {i : Instr}

/-! Raising a fault (R230, R231). -/

/-- Settles O54: of the effects an operation can have, only a raised fault and the overflow of a `TICK` set `FAULT`. -/
theorem faultsArePrecise : Obligations.FaultsArePrecise := by
  intro i s t hf h hraised
  cases exec_effect h with
  | raised _ k hhost _ hk =>
    refine ⟨k, hk, ?_⟩
    split
    · exact nomatch hhost
    · rfl
  | overflowTick => exact ⟨.rxqOvf, List.mem_singleton.2 rfl, rfl⟩
  | reset => exact nomatch hraised
  | popped => exact nomatch hraised.symm.trans ((popFront_move s).fault.trans hf)
  | ticked x => exact nomatch hraised.symm.trans ((tickFront_move x s).fault.trans hf)
  | synced _ _ _ hstep => exact nomatch hraised.symm.trans ((rxStep_move hstep).fault.trans hf)
  | idle | answered | enabled | registerWritten | entryWritten | frameQueued | aborted | idleTick =>
    exact nomatch hraised.symm.trans hf

/-! The fault state (R232). -/

/-- In the fault state a host command has no effect (R130 step (1)). -/
theorem unlessFaulted_of_fault (hf : s.fault = true) : unlessFaulted s t = s := if_pos hf

/-- The effects an operation other than `SRESET` can have in the fault state, one constructor for each way in which R232
lets it answer. `exec_faultedEffect` says that there are no others. -/
inductive FaultedEffect (s : State) : Instr → State → Prop
  /-- Consumed, without effect and without an answer. -/
  | void (i : Instr) (htick : ∀ x, i ≠ .tick x) : FaultedEffect s i s
  /-- `CFG_RD` of a mapped index (R136). -/
  | registerRead (idx : BitVec 8) (ws : List Word) : FaultedEffect s (.cfgRd idx) (putBeats ws s)
  /-- `TBL_RD` of a mapped place (R138). -/
  | entryRead (sel : BitVec 8) (addr : BitVec 16) (ws : List Word) : FaultedEffect s (.tblRd sel addr) (putBeats ws s)
  /-- `TICK` (R221). -/
  | silentTick (x : Sample) : FaultedEffect s (.tick x) (putSample 0 s)

/-- An operation without effect is void unless it is a `TICK`. -/
theorem FaultedEffect.of_exec_eq (h : exec i s = .next t) (hvoid : exec i s = .next s) (htick : ∀ x, i ≠ .tick x) :
    FaultedEffect s i t := by
  cases h.symm.trans hvoid
  exact .void i htick

/-- Every operation but `SRESET` has one of these effects in the fault state. -/
theorem exec_faultedEffect (hf : s.fault = true) (hreset : i ≠ .sreset) (h : exec i s = .next t) :
    FaultedEffect s i t := by
  obtain ⟨scan_off, length_off, payload_off, interpret_off, check_off⟩ := stepsNotEnabledChangeNothing s
  cases i with
  | sreset => exact absurd rfl hreset
  | cfgRd idx =>
    rcases execCfgRd_cases h with ⟨_, -, rfl⟩ | ⟨-, -, rfl⟩ | ⟨-, hrunning, -⟩
    · exact .registerRead idx _
    · exact .void _ nofun
    · exact nomatch hf.symm.trans hrunning
  | tblRd sel addr =>
    rcases execTblRd_cases h with ⟨-, rfl⟩ | ⟨-, -, rfl⟩ | ⟨-, hrunning, -⟩
    · exact .entryRead sel addr _
    · exact .void _ nofun
    · exact nomatch hf.symm.trans hrunning
  | tick x =>
    cases h.symm.trans (exec_tick_of_idle (.inr hf) x)
    exact .silentTick x
  | nop => exact .of_exec_eq h rfl nofun
  | enable | cfgWr | tblWr | crcAppend | crcCheck | modulate | txAbort | rxPop =>
    exact .of_exec_eq h (congrArg Host.Outcome.next (unlessFaulted_of_fault hf)) nofun
  | scan => exact .of_exec_eq h (scan_off (.inr (.inl hf))) nofun
  | collect phase =>
    cases phase with
    | getLength => exact .of_exec_eq h (length_off (.inr (.inl hf))) nofun
    | getPayload => exact .of_exec_eq h (payload_off (.inr (.inl hf))) nofun
  | interpret => exact .of_exec_eq h (interpret_off (.inr (.inl hf))) nofun
  | check => exact .of_exec_eq h (check_off (.inr (.inl hf))) nofun

/-- Settles O55: none of the effects in the fault state touches more than the history of beats, the history of samples
and the sample output. -/
theorem faultStateIsFrozen : Obligations.FaultStateIsFrozen := by
  intro i s t hf hreset h
  cases exec_faultedEffect hf hreset h with
  | void _ htick => exact ⟨rfl, rfl, fun x e => absurd e (htick x), fun _ => ⟨rfl, rfl⟩, fun _ _ => rfl⟩
  | registerRead idx => exact ⟨rfl, rfl, nofun, fun _ => ⟨rfl, rfl⟩, fun hread _ => absurd rfl (hread idx)⟩
  | entryRead sel addr => exact ⟨rfl, rfl, nofun, fun _ => ⟨rfl, rfl⟩, fun _ hread => absurd rfl (hread sel addr)⟩
  | silentTick x => exact ⟨rfl, rfl, fun _ _ => rfl, fun hother => absurd rfl (hother x), fun _ _ => rfl⟩

end Sys2Proof.Proofs
end

section
/-! PROOFS. Hazards: a command whose words have not all arrived, and a receiver with and without a stall (R271, R272,
R279). -/

namespace Sys2Proof.Proofs

open Sys2Proof.Machine Sys2Proof.Claims Sys2Proof.Laws

variable {s : State} {p : Params} {cw : Word} {inp : List PortIn} {k : Nat}

/-! The run of words at the front of what waits. -/

@[simp] theorem isWord_word (w : Word) : (PortIn.word w).isWord = true := rfl
@[simp] theorem isWord_sample (x : Word) : (PortIn.sample x).isWord = false := rfl
@[simp] theorem isWord_sync (sel : BitVec 3) : (PortIn.sync sel).isWord = false := rfl

@[simp] theorem takeWhile_isWord_map_word (ws : List Word) :
    (ws.map PortIn.word).takeWhile PortIn.isWord = ws.map PortIn.word :=
  List.takeWhile_eq_self_iff.2 (by simp)

@[simp] theorem dropWhile_isWord_map_word (ws : List Word) : (ws.map PortIn.word).dropWhile PortIn.isWord = [] :=
  List.dropWhile_eq_nil_iff.2 (by simp)

/-- Words cannot be taken exactly where too few of them stand at the front. -/
theorem takeWords_eq_none_iff : takeWords k inp = none ↔ (inp.takeWhile PortIn.isWord).length < k := by
  induction k generalizing inp with
  | zero => simp [takeWords]
  | succ k ih =>
    match inp with
    | [] => simp [takeWords]
    | .word w :: inp => simp [takeWords, List.takeWhile_cons, ih]
    | .sample x :: inp => simp [takeWords]
    | .sync sel :: inp => simp [takeWords]

/-! A pending command (R279). -/

theorem withWords_eq_incomplete_iff {build : List Word → Instr} :
    withWords k inp build = .error .incomplete ↔ takeWords k inp = none := by
  unfold withWords
  split <;> simp_all

theorem mbz_eq_incomplete_iff {zero : Bool} {r : Except DecodeReject (Instr × List PortIn)} :
    mbz zero r = .error .incomplete ↔ zero = true ∧ r = .error .incomplete := by
  cases zero <;> simp [mbz]

/-- A command is pending exactly where it is legal and fewer words follow it than it announces (R113, R279). -/
theorem decodeCommand_eq_incomplete_iff : decodeCommand p cw inp = .error .incomplete ↔
    legalCommand cw ∧ (inp.takeWhile PortIn.isWord).length < commandWords p cw := by
  rw [legalCommand_iff, ← takeWords_eq_none_iff]
  unfold decodeCommand commandWords
  dsimp only
  split
  case h_13 => simp_all [opcodeMap]
  all_goals next hop => simp [hop, opcodeMap, mbz_eq_incomplete_iff, withWords_eq_incomplete_iff, takeWords]

/-- A sample that arrives behind the words of a pending command is none of them. -/
theorem decode_pending_append_sample {ws : List Word} (h : decode p (ws.map .word) = .error .incomplete) (x : Word)
    (rest : List PortIn) : decode p (ws.map .word ++ .sample x :: rest) = .error .incomplete := by
  cases ws with
  | nil => exact nomatch h
  | cons cw ws =>
    obtain ⟨hlegal, hfew⟩ := decodeCommand_eq_incomplete_iff.1 h
    exact decodeCommand_eq_incomplete_iff.2 ⟨hlegal, by simpa using hfew⟩

theorem fetch_of_pending {ws : List Word} (h : decode p (ws.map .word) = .error .incomplete) :
    fetch p (ws.map .word) = .idle := by
  simp [fetch, h]

theorem fetch_of_pending_append_sample {ws : List Word} (h : decode p (ws.map .word) = .error .incomplete) (x : Word)
    (rest : List PortIn) :
    fetch p (ws.map .word ++ .sample x :: rest) = .run (.tick (sext p.sw x.toNat)) (ws.map .word ++ rest) := by
  have htick : decode p [.sample x] = .ok (.tick (sext p.sw x.toNat), []) := rfl
  simp [fetch, decode_pending_append_sample h, htick]

/-- Settles O6: words alone leave nothing to start, and the sample behind them is the next thing fetched. -/
theorem pendingCommandLetsTicksProceed : Obligations.PendingCommandLetsTicksProceed := by
  intro s ws x rest hpending
  refine ⟨fun hinp => ?_, fun hinp => ?_⟩
  · have hfetch : fetch s.prm s.ports.inp = .idle := by rw [hinp, fetch_of_pending hpending]
    simp [step, hfetch]
  · exact step_of_fetch (by rw [hinp, fetch_of_pending_append_sample hpending])

/-! The ring under a `TICK` (R271, R272). -/

/-- A `TICK` faults on a full ring only (R221, R235). -/
theorem exec_tick_running (hf : s.fault = false) (hroom : s.en = true → s.rx.length < s.prm.rxqCap) (x : Sample) :
    ∃ t, exec (.tick x) s = .next t ∧ t.fault = false := by
  cases hen : s.en with
  | false => exact ⟨_, exec_tick_of_idle (.inl hen) x, hf⟩
  | true => exact ⟨_, exec_tick_of_room hen hf (hroom hen).ne x, (tickFront_move x s).fault.trans hf⟩

/-- Settles O47: below the bound of the ring there is room for the sample, by (W14) of R33. -/
theorem ringNeverOverflowsUnlessStalled : Obligations.RingNeverOverflowsUnlessStalled :=
  fun _ x h hf hst =>
    ⟨fun hen => rx_length_lt h hen hst, exec_tick_running hf (fun hen => rx_length_lt_rxqCap h hen hst) x⟩

/-- `CHECK` waits for room in the frame queue, whatever the ring holds (R181). -/
theorem rxStep_eq_none_of_stalled (hst : s.st = .checkPayload) (hfull : s.prm.rxfCap ≤ s.rxf.length) :
    rxStep s = none := by
  refine Option.eq_none_iff_forall_ne_some.2 fun t ht => ?_
  obtain ⟨-, -, ⟨hst', -⟩ | ⟨hst', -⟩ | ⟨hst', -⟩ | ⟨hst', -⟩ | ⟨-, -, hroom, -⟩⟩ := rxStep_cases ht
  case inr.inr.inr.inr => exact absurd hroom hfull.not_gt
  all_goals exact nomatch hst.symm.trans hst'

/-- A `TICK` of a stalled receiver is its first three effects, the push among them (R221, R272). -/
theorem exec_tick_of_stalled (hen : s.en = true) (hf : s.fault = false) (hroom : s.rx.length < s.prm.rxqCap)
    (hst : s.st = .checkPayload) (hfull : s.prm.rxfCap ≤ s.rxf.length) (x : Sample) :
    exec (.tick x) s = .next (putSample s.txqHead (tickFront x s)) := by
  have hrest : rxStep (tickFront x s) = none := rxStep_eq_none_of_stalled hst hfull
  rw [exec_tick_of_room hen hf hroom.ne, tickEffect_eq, rxClosure_of_none hrest]

/-- Settles O48: in `CHECK_PAYLOAD` the invariant says that the frame queue is full, so no step follows the push. -/
theorem stalledReceiverBuffers : Obligations.StalledReceiverBuffers := by
  intro s x h hen hf hst hroom
  obtain ⟨-, -, -, hqueue⟩ := h.checkPayload hst
  exact ⟨_, exec_tick_of_stalled hen hf hroom hst hqueue.ge x, rfl, hst, rfl, rfl, rfl, rfl, hf⟩

end Sys2Proof.Proofs
end
